-- ==== Sys2Proof/Word.lean ====
section
/-! DEFINITION. The words of the UW-6208 and the index types of its numbered parts. -/

namespace Sys2Proof

/-- A byte on the wire, a byte of a buffer, or an 8-bit field. -/
abbrev Byte := BitVec 8

/-- A 32-bit register, parameter or result word (R187). -/
abbrev Word := BitVec 32

/-- An outbound or inbound tag, modulo 256 (Conventions, "Tag arithmetic"). -/
abbrev Tag := BitVec 8

/-- A station address, 0..63 (R31). -/
abbrev Station := BitVec 6

/-- An association number, 0..15 (R31). -/
abbrev AssocNo := BitVec 4

/-- A slot of the association table, 0..63 (R3). -/
abbrev Slot := Fin 64

/-- A frame buffer, 0..127 (R124). -/
abbrev BufferNo := Fin 128

/-- A listen entry, 0..7 (R49). -/
abbrev ListenNo := Fin 8

end Sys2Proof
end

