-- ==== Sys2Proof/Syntax.lean ====
section
/-! DEFINITION. The commands of the block: one constructor per row of `spec/opcode_table.json`, with the operands each takes. -/

namespace Sys2Proof

/-- The two drop lines. -/
inductive Line where
  | a
  | b
  deriving DecidableEq, Repr

/-- The edges of the reset input that a DEVICE_RESET command stands for (R191, log 6). -/
inductive ResetEdge where
  /-- The input becomes asserted and stays so. -/
  | assertion
  /-- The input is released. -/
  | release
  /-- Assertion and release in one command. -/
  | pulse
  deriving DecidableEq, Repr

/-- How a frame in progress is given up without an end pattern (R29). -/
inductive AbortCause where
  /-- The abort pattern. -/
  | abortPattern
  /-- A mark byte followed by `second`, which makes no pattern of R26. -/
  | violation (second : Byte)
  /-- A start pattern inside the frame. -/
  | startPattern
  /-- No pattern: the bytes themselves bring the length to 249. -/
  | overLong
  deriving DecidableEq, Repr

/-- The timers of the part (section 9.5). -/
inductive TimerName where
  /-- The state timer of a slot's association. -/
  | assocState (i : Slot)
  /-- The receipt timer of a slot's association. -/
  | receipt (i : Slot)
  /-- The grace timer of a line. -/
  | grace (l : Line)
  /-- The holdoff timer of the attention unit. -/
  | holdoff
  deriving DecidableEq, Repr

/-- The commands. Byte lanes are BE3 to BE0 of a host access, `word` is A11 to A2 (R187, R191, log 9).
A mailbox row (`cmd…`) is the completion of the command that the mailbox holds latched, so it takes no operand (R176, log 8). -/
inductive Instr where
  | deviceReset (edge : ResetEdge)
  | carrierLoss (l : Line)
  | carrierReturn (l : Line)
  /-- `coded`: the bytes received since the framer's last event, as coded on the wire; the end pattern follows them (log 15). -/
  | frameArrival (l : Line) (coded : List Byte)
  | receiveDispatch (l : Line)
  | transmissionBegin (l : Line)
  | transmissionCompletion (l : Line)
  | transmissionCut (l : Line)
  /-- `none`, the row of the table as it stands: the tick at every timer. `some x`: the tick at the timer `x` alone (R155: "taken
  separately at each timer", log 3). -/
  | tick (which : Option TimerName := none)
  | openRetryExpiry (i : Slot)
  | offerExpiry (i : Slot)
  | resendExpiry (i : Slot)
  | closeTimerExpiry (i : Slot)
  | receiptTimerExpiry (i : Slot)
  | graceExpiry (l : Line)
  | holdoffExpiry
  | cmdOpen
  | cmdAccept
  | cmdRefuse
  | cmdSubmit
  | cmdTake
  | cmdHold
  | cmdResume
  | cmdClose
  | cmdAbort
  | cmdAbortGroup
  | cmdRelease
  | cmdAllocate
  | cmdFree
  | cmdQuery
  | cmdSetListen
  | cmdGetListen
  | cmdBad
  | start
  | stop
  /-- A write of the controller control register that carries CLEAR, and START or STOP where the flags say so (R171). -/
  | clear (withStart withStop : Bool)
  | lineEnable (l : Line)
  | lineDisable (l : Line)
  | faultFlagClear (value : Word)
  | tallyClear (l : Line) (value : Word)
  | tickIntervalWrite (value : Word)
  | hostFloorWrite (value : Word)
  | notificationSettingsWrite (value : Word)
  | attentionPortRead (lanes : BitVec 4)
  /-- `word` is the word of the buffer window, 0 at offset 0x100. -/
  | bufferWindowRead (word : BitVec 6) (lanes : BitVec 4)
  | bufferWindowWrite (word : BitVec 6) (lanes : BitVec 4) (data : Word)
  | registerWrite (word : BitVec 10) (lanes : BitVec 4) (data : Word)
  /-- `bits`: what was received since the framer's last event; the start pattern follows them (log 15). -/
  | startPattern (l : Line) (bits : List Bool)
  /-- `coded`: the bytes received since the framer's last event; the pattern of `cause` follows them (log 15). -/
  | frameAborted (l : Line) (coded : List Byte) (cause : AbortCause)
  deriving DecidableEq, Repr

end Sys2Proof
end

