-- ==== Sys2Proof/Decode.lean ====
section
/-! DEFINITION. The decoder of words. No row of `spec/opcode_table.json` gives bits, so no word spells a command. -/

namespace Sys2Proof

/-- The command that a word spells by the table's bits. The table gives none, so the answer is always `none`. -/
def decodeTableWord (_nbits _w : Nat) : Option Instr := none

end Sys2Proof
end

