-- ==== Sys2Proof/Config.lean ====
section
/-! DEFINITION. The fixed capacities of the part ("Numbers at a glance") and the byte values of the wire (R26, R31).
The spec leaves no value undefined, so there is no free value here (log 20). -/

namespace Sys2Proof.Config

/-- Bytes in one frame buffer (R124). -/
def bufferBytes : Nat := 240

/-- Entries a reply queue holds (R141). -/
def replyQueueDepth : Nat := 8

/-- The control-burst limit (R144, R145). -/
def burstLimit : Nat := 4

/-- The value at which a discard tally stays (R35). -/
def tallyMax : Nat := 65535

/-- The largest host floor; a larger written value is taken as this (R131). -/
def hostFloorMax : Nat := 32

/-- The largest tick interval; a larger written value is ignored (R153). -/
def intervalMax : Nat := 4095

/-- The shortest frame that is delivered, check bytes counted (R28). -/
def frameMin : Nat := 7

/-- The length at which a frame is given up as over-long (R29). -/
def frameOver : Nat := 249

/-- The mark byte of the wire coding (R26). -/
def mark : Byte := 0xB4

/-- The second byte of the start pattern (R26). -/
def startCode : Byte := 0x01

/-- The second byte of the end pattern (R26). -/
def endCode : Byte := 0x02

/-- The second byte of the abort pattern (R26). -/
def abortCode : Byte := 0x03

/-- The generator polynomial x^16 + x^12 + x^5 + 1 of the frame check sequence, without its leading term (R27). -/
def crcPoly : BitVec 16 := 0x1021

/-- The preset of the check register (R27). -/
def crcPreset : BitVec 16 := 0xFFFF

end Sys2Proof.Config
end

