-- ==== Sys2Proof/Machine/State.lean ====
section
/-! DEFINITION. The state of the UW-6208, block by block, and its value after a device reset. -/

namespace Sys2Proof.Machine

/-! ### Timers -/

/-- A timer (R154): stopped, or counting with its remaining ticks. -/
inductive Timer where
  | stopped
  | counting (remaining : Nat)
  deriving DecidableEq, Repr

/-! ### The association record -/

/-- The key of an association (R18). -/
structure Key where
  line : Line
  station : Station
  an : AssocNo
  deriving DecidableEq, Repr

/-- How an association came to be (R3). -/
inductive Origin where
  | host
  | listen (n : ListenNo)
  deriving DecidableEq, Repr

/-- The refuse reasons of OPEN-REFUSE (R17). -/
inductive RefuseReason where
  | noListener
  | tableFull
  | admissionFull
  | refusedByHost
  | crossed
  | offerExpired
  deriving DecidableEq, Repr

/-- The detail of the end cause PROTOCOL (R17). -/
inductive ProtocolDetail where
  | creditExceeded
  | oversize
  | badReceipt
  | closeMismatch
  deriving DecidableEq, Repr

/-- The end causes, with the detail of those that have one (R17). -/
inductive EndCause where
  | localClose
  | remoteClose
  | localAbort
  | refused (reason : RefuseReason)
  | refusedLocal
  | offerExpired
  | noResponse
  | protocol (detail : ProtocolDetail)
  | disowned
  | remoteReset
  | lineDown
  | lineDisabled
  deriving DecidableEq, Repr

/-- The state of an occupied slot (R1). The end part is present in ENDED and nowhere else (R17). -/
inductive AssocState where
  | opening
  | offered
  | opened
  | draining
  | closing
  | ended (cause : EndCause)
  deriving DecidableEq, Repr

/-- The agreed parameters that every record holds (R8). -/
structure Params where
  inboundLimit : Nat
  window : Nat
  sendQueueLimit : Nat
  inboundQuota : Nat
  resendPeriod : Nat
  retryLimit : Nat
  receiptDelay : Nat
  deriving DecidableEq, Repr

/-- One entry of a send queue (R10). -/
structure SendEntry where
  tag : Tag
  buffer : BufferNo
  length : Nat
  deriving DecidableEq, Repr

/-- One pair of an inbound queue (R12). -/
structure InboundEntry where
  buffer : BufferNo
  length : Nat
  deriving DecidableEq, Repr

/-- The kinds of association control frame (R15). -/
inductive ControlKind where
  | openAccept
  | openRequest
  | close
  | receipt
  | probe
  deriving DecidableEq, Repr

/-- A pending control set (R15): one flag a kind. -/
structure ControlSet where
  openAccept : Bool
  openRequest : Bool
  close : Bool
  receipt : Bool
  probe : Bool
  deriving DecidableEq, Repr

/-- The empty pending control set. -/
def ControlSet.empty : ControlSet := ⟨false, false, false, false, false⟩

/-- The reasons of a slot source (R16). -/
inductive SlotReason where
  | opened
  | offered
  | inbound
  | drained
  | ended
  deriving DecidableEq, Repr

/-- The reason set of a slot source (R16). -/
structure SlotReasons where
  opened : Bool
  offered : Bool
  inbound : Bool
  drained : Bool
  ended : Bool
  deriving DecidableEq, Repr

/-- The empty reason set of a slot. -/
def SlotReasons.empty : SlotReasons := ⟨false, false, false, false, false⟩

/-- The record of an occupied slot: identity other than slot and generation (R3), parameters (R8, R9), outbound part
(R10, R11), inbound part (R12, R13), timers (R14), pending control (R15), reasons (R16). -/
structure Assoc where
  state : AssocState
  key : Key
  epoch : Byte
  origin : Origin
  params : Params
  outboundLimit : Option Nat
  offerTimeout : Option Nat
  sendQueue : List SendEntry
  sendBase : Tag
  nextToSend : Tag
  sentMark : Tag
  submitTag : Tag
  peerLimit : Tag
  retryCount : Nat
  abandoned : Nat
  inboundQueue : List InboundEntry
  expected : Tag
  grant : Nat
  advertised : Tag
  hold : Bool
  stateTimer : Timer
  receiptTimer : Timer
  pendingControl : ControlSet
  reasons : SlotReasons
  deriving DecidableEq, Repr

/-- A slot: its generation (R4), and the record while it is occupied. A slot without a record is FREE, with the content of
R22 (log 13). -/
structure SlotRecord where
  generation : BitVec 16
  assoc : Option Assoc
  deriving DecidableEq, Repr

/-- One entry of the address map (R18). -/
structure MapEntry where
  key : Key
  slot : Slot
  deriving DecidableEq, Repr

/-! ### The listen table -/

/-- The mode of a listen entry (R49). -/
inductive ListenMode where
  | auto
  | ask
  deriving DecidableEq, Repr

/-- A listen entry (R49). -/
structure ListenEntry where
  enabled : Bool
  mode : ListenMode
  line : Line
  stationValue : Station
  stationMask : Station
  anValue : AssocNo
  anMask : AssocNo
  admissionLimit : Nat
  admitted : Nat
  params : Params
  offerTimeout : Nat
  deriving DecidableEq, Repr

/-! ### The buffer pool -/

/-- The state of a buffer (R124). A RETIRING buffer is tied to the transmitter that is sending it. -/
inductive BufferState where
  | free
  | host
  | outbound
  | inbound
  | retiring (l : Line)
  deriving DecidableEq, Repr

/-- The buffer pool (chapter 7). The host-held set is the buffers in state `host`, the retiring set those in `retiring`
(log 12). `memory` lists the buffer bytes that are not 0. -/
structure Pool where
  bufferState : Vector BufferState 128
  freeList : List BufferNo
  reserved : Nat
  hostFloor : Nat
  refreshPtr : Slot
  /-- The buffer-window select register; `none` is the invalid selection (R136). -/
  select : Option BufferNo
  memory : List Host.Cell
  deriving DecidableEq, Repr

/-! ### The lines -/

/-- The line states (R161). -/
inductive LineState where
  | disabled
  | active
  | suspended
  | down
  deriving DecidableEq, Repr

/-- The reasons of a line source (R161). -/
inductive LineReason where
  | suspended
  | down
  | restored
  deriving DecidableEq, Repr

/-- The reason set of a line source (R161). -/
structure LineReasons where
  suspended : Bool
  down : Bool
  restored : Bool
  deriving DecidableEq, Repr

/-- The empty reason set of a line. -/
def LineReasons.empty : LineReasons := ⟨false, false, false⟩

/-- The discards that are counted (R35). -/
inductive TallyKind where
  | check
  | foreign
  | malformed
  | idle
  | replyDrop
  deriving DecidableEq, Repr

/-- The five discard tallies of a line (R35). -/
structure Tallies where
  check : Nat
  foreign : Nat
  malformed : Nat
  idle : Nat
  replyDrop : Nat
  deriving DecidableEq, Repr

/-- The frame kinds (R31). -/
inductive FrameKind where
  | openRequest
  | openAccept
  | openRefuse
  | data
  | receipt
  | probe
  | close
  | closeConfirm
  | disown
  deriving DecidableEq, Repr

/-- The kinds of reply (R141). Only OPEN-REFUSE carries a reason. -/
inductive ReplyKind where
  | disown
  | closeConfirm
  | openRefuse (reason : RefuseReason)
  deriving DecidableEq, Repr

/-- An entry of a reply queue (R141). -/
structure Reply where
  kind : ReplyKind
  station : Station
  an : AssocNo
  epoch : Byte
  deriving DecidableEq, Repr

/-- Where the frame on the wire came from (R139): the reply queue, or an association, tied by slot and generation (R120). -/
inductive TxSource where
  | reply
  | association (slot : Slot) (generation : BitVec 16)
  deriving DecidableEq, Repr

/-- The transmission record (R139). `buffer` is present for kind DATA: the buffer in flight (R129). -/
structure TxRecord where
  kind : FrameKind
  source : TxSource
  buffer : Option BufferNo
  deriving DecidableEq, Repr

/-- The state of a line transmitter (R139). -/
inductive TxState where
  | idle
  | sending (record : TxRecord)
  deriving DecidableEq, Repr

/-- What the transmit data output of a line carries (R26, R30). -/
inductive TxOutput where
  /-- Idle fill of all ones. -/
  | idleFill
  /-- A whole transmission, from the start pattern to the end pattern. -/
  | transmission (coded : List Byte)
  /-- The abort pattern of a cut frame, and idle fill after it. -/
  | abortPattern
  deriving DecidableEq, Repr

/-- The receive side of a line framer (R26 to R28). -/
inductive RxFramer where
  /-- Outside a frame: the last eight bits of the search at every bit position. -/
  | hunting (window : Byte)
  /-- A mark byte has been found outside a frame: the bits so far of the byte after it. -/
  | paired (bits : Nat) (value : Byte)
  /-- Inside a frame: the bytes received so far, the running check, the running length, whether the last byte was a mark, and
  the bits so far of the byte in progress. -/
  | collecting (bytes : List Byte) (check : BitVec 16) (length : Nat) (marked : Bool) (bits : Nat) (value : Byte)
  deriving DecidableEq, Repr

/-- A delivered frame (R28): its bytes without the check bytes. Its length, the check bytes counted, is two more than theirs. -/
structure Delivered where
  bytes : List Byte
  deriving DecidableEq, Repr

/-- All a line's blocks hold: line state logic (R161), framer, dispatcher, tallies (R35), transmitter and reply queue (R139). -/
structure LineRecord where
  state : LineState
  carrier : Bool
  grace : Nat
  graceTimer : Timer
  reasons : LineReasons
  rx : RxFramer
  arrived : List Delivered
  tallies : Tallies
  replies : List Reply
  tx : TxState
  controlPtr : Slot
  dataPtr : Slot
  burst : Nat
  txOut : TxOutput
  deriving DecidableEq, Repr

/-! ### Timebase, controller, mailbox, fault flags, attention unit -/

/-- The timebase (R153): the interval, and the phase in units of 100 microseconds. -/
structure Timebase where
  interval : Nat
  phase : Nat
  /-- The timers that have taken the tick that is being taken timer by timer; none outside it (R155; the model's own field,
  log 3). -/
  taken : Option (List TimerName)
  deriving DecidableEq, Repr

/-- The controller states (R169, R170). -/
inductive ControllerState where
  | stopped
  | running
  | stopping
  deriving DecidableEq, Repr

/-- The completion codes (R178). -/
inductive Completion where
  | ok
  | badCommand
  | stale
  | badParameter
  | state
  | line
  | tableFull
  | inUse
  | queueFull
  | notOwner
  | noBuffer
  | empty
  deriving DecidableEq, Repr

/-- What the mailbox holds latched while it is BUSY (R173, R174). -/
structure Latched where
  code : Byte
  params : Vector Word 6
  deriving DecidableEq, Repr

/-- The command mailbox (R173). It is BUSY while `latched` is present, else IDLE. -/
structure Mailbox where
  latched : Option Latched
  params : Vector Word 6
  results : Vector Word 4
  completion : Option Completion
  deriving DecidableEq, Repr

/-- The host fault flags (R180). -/
structure FaultFlags where
  overrun : Bool
  windowFault : Bool
  clearRefused : Bool
  deriving DecidableEq, Repr

/-- A source of the attention list (R181). -/
inductive Source where
  | slot (i : Slot)
  | line (l : Line)
  deriving DecidableEq, Repr

/-- A notice (R182). -/
inductive Notice where
  | slot (i : Slot) (generation : BitVec 16) (reasons : SlotReasons)
  | line (l : Line) (reasons : LineReasons)
  deriving DecidableEq, Repr

/-- The attention unit (R181 to R185). -/
structure Attention where
  list : List Source
  holding : Option Notice
  enable : Bool
  threshold : Nat
  holdoff : Nat
  holdoffTimer : Timer
  indicator : Bool
  deriving DecidableEq, Repr

/-! ### The whole -/

/-- The state of the part, with the queue of commands that wait. -/
structure State where
  /-- The level of the reset input: true while it is asserted (R191). -/
  resetAsserted : Bool
  /-- D31 to D0 as the part last drove them at a read (the model's own field, log 10). -/
  dataOut : Word
  table : Vector SlotRecord 64
  addressMap : List MapEntry
  listen : Vector ListenEntry 8
  pool : Pool
  lineA : LineRecord
  lineB : LineRecord
  timebase : Timebase
  controller : ControllerState
  mailbox : Mailbox
  flags : FaultFlags
  attention : Attention
  /-- The commands that wait, first in, first out (the model's own field, log 1). -/
  pending : List Instr
  deriving DecidableEq, Repr

/-- Why the block stops. -/
inductive Fault where
  /-- Raised by RECEIVE_DISPATCH where an accepted DATA frame finds the free list empty. R130 says this never happens ("An
  acceptance therefore always finds a buffer at the head of the free list"), so only a state that no run reaches raises it.
  Safe: the model stops where the spec gives no effect (log 17). -/
  | acceptanceWithoutBuffer
  deriving DecidableEq, Repr

/-- Why a command has no meaning. -/
inductive Refusal where
  /-- Raised by `exec` for a row whose meaning is not written yet; no arm raises it. Safe: the model stops. -/
  | notModelled (mnemonic : String)
  deriving DecidableEq, Repr

/-! ### Device reset -/

/-- A FREE slot after a device reset (R23). -/
def SlotRecord.reset : SlotRecord := { generation := 0, assoc := none }

/-- A listen entry after a device reset (R49). -/
def ListenEntry.reset : ListenEntry :=
  { enabled := false, mode := .auto, line := .a, stationValue := 0, stationMask := 0, anValue := 0, anMask := 0,
    admissionLimit := 0, admitted := 0,
    params := { inboundLimit := 240, window := 4, sendQueueLimit := 8, inboundQuota := 4, resendPeriod := 10,
                retryLimit := 3, receiptDelay := 2 },
    offerTimeout := 50 }

/-- The free list after a device reset and after CLEAR: 0 to 127 in ascending order (R126). -/
def allBuffers : List BufferNo := List.ofFn (fun b : BufferNo => b)

/-- The pool after a device reset (R138). -/
def Pool.reset : Pool :=
  { bufferState := Vector.replicate 128 .free, freeList := allBuffers, reserved := 0, hostFloor := 4, refreshPtr := 63,
    select := some 0, memory := [] }

/-- All five tallies at 0 (R35). -/
def Tallies.zero : Tallies := ⟨0, 0, 0, 0, 0⟩

/-- A line after a device reset, with the level of its carrier input (R161, R152, R35). DESIGN CHOICE, unsafe: frames delivered
but not yet dispatched are dropped, for which the spec gives no reset value (R36, log 24). DEDUCED, safe: the framer holds nothing
and searches (R28, R162, log 25). -/
def LineRecord.reset (carrier : Bool) : LineRecord :=
  { state := .disabled, carrier := carrier, grace := 20, graceTimer := .stopped, reasons := .empty, rx := .hunting 0,
    arrived := [], tallies := .zero, replies := [], tx := .idle, controlPtr := 63, dataPtr := 63, burst := 0,
    txOut := .idleFill }

/-- The mailbox after a device reset (R173). -/
def Mailbox.reset : Mailbox :=
  { latched := none, params := Vector.replicate 6 0, results := Vector.replicate 4 0, completion := none }

/-- The attention unit after a device reset (R182 to R185). -/
def Attention.reset : Attention :=
  { list := [], holding := none, enable := false, threshold := 1, holdoff := 0, holdoffTimer := .stopped,
    indicator := false }

/-- The machine right after a device reset, with the reset input released. DESIGN CHOICE, unsafe: both carrier inputs are
absent (the spec has them follow the input, log 7), no read has driven the data bus (log 10), and no delivered frame waits for
dispatch (log 24). -/
def State.reset : State :=
  { resetAsserted := false, dataOut := 0, table := Vector.replicate 64 .reset, addressMap := [],
    listen := Vector.replicate 8 .reset, pool := .reset, lineA := .reset false, lineB := .reset false,
    timebase := { interval := 100, phase := 0, taken := none }, controller := .stopped, mailbox := .reset,
    flags := ⟨false, false, false⟩, attention := .reset, pending := [] }

end Sys2Proof.Machine
end

