-- ==== Sys2Proof/Machine/Memory.lean ====
section
/-! DEFINITION. The bytes of the 128 frame buffers as one list of cells in canonical form: addresses rising, no cell holding
the value 0 that an unlisted cell reads as (R137: every byte is 0 after a device reset). Byte `k` of buffer `b` is cell
`240 * b + k` (log 12). -/

namespace Sys2Proof.Machine

/-- The number of cells: 128 buffers of 240 bytes. -/
def Memory.size : Nat := 128 * Config.bufferBytes

/-- The cell of byte `k` of buffer `b`. -/
def Memory.cell (b : BufferNo) (k : Nat) : Nat := Config.bufferBytes * b.val + k

/-- What a cell holds; an unlisted cell reads as 0. -/
def Memory.read : List Host.Cell → Nat → Byte
  | [], _ => 0
  | (a, v) :: rest, x => if x = a then v else Memory.read rest x

/-- The memory with cell `x` holding `v`. -/
def Memory.write : List Host.Cell → Nat → Byte → List Host.Cell
  | [], x, v => if v = 0 then [] else [(x, v)]
  | (a, w) :: rest, x, v =>
    if x < a then (if v = 0 then (a, w) :: rest else (x, v) :: (a, w) :: rest)
    else if x = a then (if v = 0 then rest else (x, v) :: rest)
    else (a, w) :: Memory.write rest x v

/-- The memory with `bytes` from cell `x` on. -/
def Memory.writeBytes : List Host.Cell → Nat → List Byte → List Host.Cell
  | m, _, [] => m
  | m, x, v :: rest => Memory.writeBytes (Memory.write m x v) (x + 1) rest

/-- The `n` bytes from cell `x` on. -/
def Memory.readBytes (m : List Host.Cell) : Nat → Nat → List Byte
  | _, 0 => []
  | x, n + 1 => Memory.read m x :: Memory.readBytes m (x + 1) n

/-- The canonical form from cell `lo` on. -/
def Memory.wfFrom : Nat → List Host.Cell → Bool
  | _, [] => true
  | lo, (a, v) :: rest => decide (lo ≤ a) && decide (a < Memory.size) && decide (v ≠ 0) && Memory.wfFrom (a + 1) rest

/-- The canonical form: cells strictly rising, inside the 128 buffers, none holding 0. -/
def Memory.wf (m : List Host.Cell) : Bool := Memory.wfFrom 0 m

end Sys2Proof.Machine
end

