-- ==== Sys2Proof/Machine/Flags.lean ====
section
/-! DEFINITION. The conditions that rules test: slot states, tag distances, when an association is stalled, sendable or waiting,
which timers count, and the level of the notification line. -/

namespace Sys2Proof.Machine

/-! ### State access -/

/-- The record of a slot, with its generation. -/
def State.slotRec (s : State) (i : Slot) : SlotRecord := s.table[i]

/-- The association in a slot; none in FREE. -/
def State.assocAt (s : State) (i : Slot) : Option Assoc := (s.slotRec i).assoc

/-- The generation of a slot. -/
def State.generation (s : State) (i : Slot) : BitVec 16 := (s.slotRec i).generation

/-- A line's record. -/
def State.line (s : State) : Line → LineRecord
  | .a => s.lineA
  | .b => s.lineB

/-- A listen entry. -/
def State.listenAt (s : State) (n : ListenNo) : ListenEntry := s.listen[n]

/-- The state of a buffer. -/
def State.bufferStateAt (s : State) (b : BufferNo) : BufferState := s.pool.bufferState[b]

/-- Byte `k` of buffer `b` (R137). -/
def State.bufferByte (s : State) (b : BufferNo) (k : Nat) : Byte := Memory.read s.pool.memory (Memory.cell b k)

/-! ### Slot states -/

/-- The live states (R1). -/
def AssocState.isLive : AssocState → Bool
  | .ended _ => false
  | _ => true

/-- OPEN or DRAINING: the states in which data is sent (R69, R72). -/
def AssocState.sends : AssocState → Bool
  | .opened | .draining => true
  | _ => false

/-- OPEN, DRAINING or CLOSING: the states in which data is received (R87). -/
def AssocState.receives : AssocState → Bool
  | .opened | .draining | .closing => true
  | _ => false

/-- OPENING, OPEN, DRAINING or CLOSING: the states that may hold credit (R95). -/
def AssocState.credits : AssocState → Bool
  | .opening | .opened | .draining | .closing => true
  | _ => false

/-! ### Tags -/

/-- The distance of a tag from a base, forward modulo 256 (R65). -/
def tagDistance (base t : Tag) : Nat := (t - base).toNat

/-- The unreceipted count: the distance of next-to-send (R65). -/
def Assoc.unreceipted (a : Assoc) : Nat := tagDistance a.sendBase a.nextToSend

/-- An unsent entry exists (R69). -/
def Assoc.hasUnsent (a : Assoc) : Bool := a.nextToSend ≠ a.submitTag

/-- Stalled (R72): an unsent entry, nothing unreceipted, and next-to-send at the peer limit. -/
def Assoc.stalled (a : Assoc) : Bool :=
  a.hasUnsent && a.unreceipted = 0 && a.nextToSend = a.peerLimit

/-- The resend timer is needed (R72). -/
def Assoc.timerNeeded (a : Assoc) : Bool := 0 < a.unreceipted || a.stalled

/-- The limit that the station may be told: E+G (R12). -/
def Assoc.limit (a : Assoc) : Tag := a.expected + BitVec.ofNat 8 a.grant

/-- E+G is beyond the last advertised limit: 1 to 127 forward of it (R96). -/
def Assoc.beyondAdvertised (a : Assoc) : Bool :=
  1 ≤ tagDistance a.advertised a.limit && tagDistance a.advertised a.limit ≤ 127

/-! ### Credit -/

/-- The target: the inbound quota less the inbound-queue length (R95). -/
def Assoc.target (a : Assoc) : Nat := a.params.inboundQuota - a.inboundQueue.length

/-- Waiting for a grant raise (R95). -/
def Assoc.waiting (a : Assoc) : Bool := a.state.credits && !a.hold && a.grant < a.target

/-- The available count at the start of a pass; 0 where the subtraction gives 0 or below (R132). -/
def State.available (s : State) : Nat := s.pool.freeList.length - (s.pool.reserved + s.pool.hostFloor)

/-! ### Lines and transmission -/

/-- The controller is RUNNING. -/
def State.running (s : State) : Bool := s.controller = .running

/-- Association timers of the line may count a tick (R156). -/
def State.lineCounts (s : State) (l : Line) : Bool := s.running && (s.line l).state = .active

/-- The entry at next-to-send (R70). -/
def Assoc.nextEntry (a : Assoc) : Option SendEntry := a.sendQueue.find? (fun e => e.tag = a.nextToSend)

/-- The association is sendable (R69). -/
def State.sendable (s : State) (a : Assoc) : Bool :=
  a.state.sends && a.hasUnsent && a.unreceipted < a.params.window
    && tagDistance a.sendBase a.nextToSend < tagDistance a.sendBase a.peerLimit
    && (s.line a.key.line).state = .active && s.running

/-- The buffer in flight on a line (R129). -/
def State.inFlight (s : State) (l : Line) : Option BufferNo :=
  match (s.line l).tx with
  | .sending r => r.buffer
  | .idle => none

/-- Both transmitters are IDLE (R170). -/
def State.bothIdle (s : State) : Bool := s.lineA.tx = .idle && s.lineB.tx = .idle

/-! ### Slots in order -/

/-- The slots in order from `i`, `n` of them, wrapping from 63 to 0. -/
def slotsFrom : Nat → Slot → List Slot
  | 0, _ => []
  | n + 1, i => i :: slotsFrom n (i + 1)

/-- All slots in ascending order. -/
def allSlots : List Slot := slotsFrom 64 0

/-- The visiting order that starts at the slot after a pointer and ends at the pointer (R132, R146, R147). -/
def slotsAfter (p : Slot) : List Slot := slotsFrom 64 (p + 1)

/-! ### Timers -/

/-- Arming (R154): a stopped timer starts, a counting one restarts. -/
def Timer.arm (_ : Timer) (n : Nat) : Timer := .counting n

/-- A timer of the part; that of a FREE slot is stopped (R14, R160, R161, R185). -/
def State.timerAt (s : State) : TimerName → Timer
  | .assocState i => (s.assocAt i).elim .stopped (·.stateTimer)
  | .receipt i => (s.assocAt i).elim .stopped (·.receiptTimer)
  | .grace l => (s.line l).graceTimer
  | .holdoff => s.attention.holdoffTimer

/-- A timer may count a tick; else it is frozen (R156). -/
def State.mayCount (s : State) : TimerName → Bool
  | .assocState i => (s.assocAt i).elim false fun a => s.lineCounts a.key.line
  | .receipt i => (s.assocAt i).elim false fun a => s.lineCounts a.key.line
  | .grace _ => s.running
  | .holdoff => true

/-- A tick at the timer would take its last remaining tick (R155). -/
def State.expiresAt (s : State) (x : TimerName) : Bool :=
  match s.timerAt x with
  | .stopped => false
  | .counting n => s.mayCount x && n ≤ 1

/-- All timers, in the order in which a whole TICK reaches them (log 3). -/
def allTimers : List TimerName :=
  [.holdoff, .grace .a, .grace .b] ++ allSlots.flatMap fun i => [.assocState i, .receipt i]

/-- Ticks can occur: the interval is not 0 (R153) and the reset input is released (R191). -/
def State.ticks (s : State) : Bool := !s.resetAsserted && s.timebase.interval ≠ 0

/-- The timer has taken the tick that is being taken timer by timer (log 3). -/
def State.tookTick (s : State) (x : TimerName) : Bool := (s.timebase.taken.getD []).contains x

/-! ### Mailbox, notification -/

/-- The mailbox is BUSY (R173). -/
def State.busy (s : State) : Bool := s.mailbox.latched.isSome

/-- The notification line is asserted (R186); not while the reset input is asserted (R191). -/
def State.notifyAsserted (s : State) : Bool :=
  !s.resetAsserted && s.attention.enable && 0 < s.attention.list.length
    && (s.attention.threshold ≤ s.attention.list.length || s.attention.indicator)

/-- Empty reason sets. -/
def SlotReasons.isEmpty (r : SlotReasons) : Bool := r = .empty
def LineReasons.isEmpty (r : LineReasons) : Bool := r = .empty

/-- A control set that holds a kind. -/
def ControlSet.has (c : ControlSet) : ControlKind → Bool
  | .openAccept => c.openAccept
  | .openRequest => c.openRequest
  | .close => c.close
  | .receipt => c.receipt
  | .probe => c.probe

/-- The control set with a kind added (`true`) or taken out (`false`) (R15). -/
def ControlSet.put (c : ControlSet) (v : Bool) : ControlKind → ControlSet
  | .openAccept => { c with openAccept := v }
  | .openRequest => { c with openRequest := v }
  | .close => { c with close := v }
  | .receipt => { c with receipt := v }
  | .probe => { c with probe := v }

/-- The set with a kind added. -/
def ControlSet.add (c : ControlSet) (k : ControlKind) : ControlSet := c.put true k

/-- The set with a kind taken out. -/
def ControlSet.drop (c : ControlSet) (k : ControlKind) : ControlSet := c.put false k

/-- The first kind present in the order of R146. -/
def ControlSet.first (c : ControlSet) : Option ControlKind :=
  if c.openAccept then some .openAccept
  else if c.openRequest then some .openRequest
  else if c.close then some .close
  else if c.receipt then some .receipt
  else if c.probe then some .probe
  else none

/-- The slot reason set with a reason raised (R16). -/
def SlotReasons.raise (r : SlotReasons) : SlotReason → SlotReasons
  | .opened => { r with opened := true }
  | .offered => { r with offered := true }
  | .inbound => { r with inbound := true }
  | .drained => { r with drained := true }
  | .ended => { r with ended := true }

/-- The line reason set with a reason raised (R161). -/
def LineReasons.raise (r : LineReasons) : LineReason → LineReasons
  | .suspended => { r with suspended := true }
  | .down => { r with down := true }
  | .restored => { r with restored := true }

/-- A value agrees with a value under a mask: equal in every bit position where the mask holds 0 (R50). -/
def agrees {w : Nat} (x value mask : BitVec w) : Bool := (x ^^^ value) &&& ~~~ mask = 0

end Sys2Proof.Machine
end

