-- ==== Sys2Proof/Machine/Operands.lean ====
section
/-! DEFINITION. The operand forms: byte lanes and bit fields of a host access (R187), the encodings of the mailbox words
(R189), and the ranges of the parameters (R8, R49). -/

namespace Sys2Proof.Machine

/-! ### Byte lanes and fields -/

/-- The bits that the selected byte lanes cover. -/
def laneMask (lanes : BitVec 4) : Word :=
  (if lanes.getLsbD 3 then 0xFF000000 else 0) ||| (if lanes.getLsbD 2 then 0x00FF0000 else 0)
    ||| (if lanes.getLsbD 1 then 0x0000FF00 else 0) ||| (if lanes.getLsbD 0 then 0x000000FF else 0)

/-- A write of part of a register changes only the bytes written (R187). -/
def mergeLanes (old data : Word) (lanes : BitVec 4) : Word :=
  (data &&& laneMask lanes) ||| (old &&& ~~~ laneMask lanes)

/-- The `len` bits of `w` from bit `lo` on, as a number. -/
def fieldNat (w : Word) (lo len : Nat) : Nat := (w.extractLsb' lo len).toNat

/-- The number `v` in the `len` bits from bit `lo` on. -/
def place (lo len v : Nat) : Word := BitVec.ofNat 32 (v % 2 ^ len * 2 ^ lo)

/-- The bit `v` at bit `lo`. -/
def placeBit (lo : Nat) (v : Bool) : Word := place lo 1 v.toNat

/-- Byte `k` of a word, 0 the least significant. -/
def wordByte (w : Word) (k : Nat) : Byte := w.extractLsb' (8 * k) 8

/-! ### Encodings of R189 -/

/-- The line field: 1 is A, 2 is B, 0 and 3 are out of range. -/
def lineOfField (v : Nat) : Option Line :=
  if v = 1 then some .a else if v = 2 then some .b else none

/-- The line field of a line. -/
def lineField : Line → Nat
  | .a => 1
  | .b => 2

/-- The handle word: slot 7:0, generation 31:16. -/
def handleWord (i : Slot) (generation : BitVec 16) : Word :=
  place 0 8 i.val ||| place 16 16 generation.toNat

/-- The slot that a slot field names; a value above 63 names none (R5). -/
def slotOfField (v : Nat) : Option Slot := if h : v < 64 then some ⟨v, h⟩ else none

/-- The buffer that a buffer field names; a value above 127 names none (R67, R128). -/
def bufferOfField (v : Nat) : Option BufferNo := if h : v < 128 then some ⟨v, h⟩ else none

/-- The listen entry that an index field names; a value above 7 names none (R63, R64). -/
def listenOfField (v : Nat) : Option ListenNo := if h : v < 8 then some ⟨v, h⟩ else none

/-- The completion code field; none is 0xFF. -/
def completionField : Option Completion → Nat
  | some .ok => 0
  | some .badCommand => 1
  | some .stale => 2
  | some .badParameter => 3
  | some .state => 4
  | some .line => 5
  | some .tableFull => 6
  | some .inUse => 7
  | some .queueFull => 8
  | some .notOwner => 9
  | some .noBuffer => 10
  | some .empty => 11
  | none => 0xFF

/-- The slot state field; FREE is 0. -/
def stateField : Option Assoc → Nat
  | none => 0
  | some a =>
    match a.state with
    | .opening => 1
    | .offered => 2
    | .opened => 3
    | .draining => 4
    | .closing => 5
    | .ended _ => 6

/-- The origin field; absent is 0. -/
def originField : Origin → Nat
  | .host => 1
  | .listen n => 8 + n.val

/-- The wire value of a refuse reason (R17). -/
def refuseCode : RefuseReason → Nat
  | .noListener => 1
  | .tableFull => 2
  | .admissionFull => 3
  | .refusedByHost => 4
  | .crossed => 5
  | .offerExpired => 6

/-- The refuse reason of a wire value; 0 and values above 6 are none (R34). -/
def refuseOfCode (v : Nat) : Option RefuseReason :=
  if v = 1 then some .noListener
  else if v = 2 then some .tableFull
  else if v = 3 then some .admissionFull
  else if v = 4 then some .refusedByHost
  else if v = 5 then some .crossed
  else if v = 6 then some .offerExpired
  else none

/-- The end cause field. -/
def endCauseField : EndCause → Nat
  | .localClose => 1
  | .remoteClose => 2
  | .localAbort => 3
  | .refused _ => 4
  | .refusedLocal => 5
  | .offerExpired => 6
  | .noResponse => 7
  | .protocol _ => 8
  | .disowned => 9
  | .remoteReset => 10
  | .lineDown => 11
  | .lineDisabled => 12

/-- The detail field. -/
def detailField : EndCause → Nat
  | .refused r => refuseCode r
  | .protocol .creditExceeded => 1
  | .protocol .oversize => 2
  | .protocol .badReceipt => 3
  | .protocol .closeMismatch => 4
  | _ => 0

/-- The mode bit of a listen entry. -/
def modeBit : ListenMode → Bool
  | .auto => false
  | .ask => true

/-! ### Command codes of R189 -/

def codeOpen : Byte := 0x10
def codeAccept : Byte := 0x11
def codeRefuse : Byte := 0x12
def codeSubmit : Byte := 0x20
def codeTake : Byte := 0x21
def codeHold : Byte := 0x22
def codeResume : Byte := 0x23
def codeClose : Byte := 0x30
def codeAbort : Byte := 0x31
def codeAbortGroup : Byte := 0x32
def codeRelease : Byte := 0x33
def codeAllocate : Byte := 0x40
def codeFree : Byte := 0x41
def codeQuery : Byte := 0x50
def codeSetListen : Byte := 0x51
def codeGetListen : Byte := 0x52

/-- The sixteen codes that name a command. -/
def commandCodes : List Byte :=
  [codeOpen, codeAccept, codeRefuse, codeSubmit, codeTake, codeHold, codeResume, codeClose, codeAbort, codeAbortGroup,
   codeRelease, codeAllocate, codeFree, codeQuery, codeSetListen, codeGetListen]

/-! ### Ranges and parameter words -/

/-- `lo ≤ v ≤ hi`. -/
def within (lo hi v : Nat) : Bool := decide (lo ≤ v) && decide (v ≤ hi)

/-- The agreed parameters are in the ranges of R8. -/
def Params.inRange (p : Params) : Bool :=
  within 16 240 p.inboundLimit && within 1 16 p.window && within 1 32 p.sendQueueLimit && within 0 15 p.inboundQuota
    && within 1 255 p.resendPeriod && within 1 15 p.retryLimit && within 0 15 p.receiptDelay

/-- The key and the agreed parameters of OPEN's words P0 to P2, if every field is in its range (R42, test 1). -/
def openOperands (p : Vector Word 6) : Option (Key × Params) :=
  let ps : Params :=
    { inboundLimit := fieldNat p[1] 0 8, window := fieldNat p[1] 8 8, sendQueueLimit := fieldNat p[1] 16 8,
      inboundQuota := fieldNat p[1] 24 8, resendPeriod := fieldNat p[2] 0 8, retryLimit := fieldNat p[2] 8 8,
      receiptDelay := fieldNat p[2] 16 8 }
  match lineOfField (fieldNat p[0] 0 2) with
  | none => none
  | some l =>
    if within 1 62 (fieldNat p[0] 8 8) && within 0 15 (fieldNat p[0] 16 8) && ps.inRange then
      some ({ line := l, station := BitVec.ofNat 6 (fieldNat p[0] 8 8), an := BitVec.ofNat 4 (fieldNat p[0] 16 8) }, ps)
    else none

/-- The line, station value and station mask of ABORT-GROUP's word P0, if in range (R117, test 1). -/
def groupOperands (p : Vector Word 6) : Option (Line × Station × Station) :=
  match lineOfField (fieldNat p[0] 0 2) with
  | none => none
  | some l =>
    if within 0 63 (fieldNat p[0] 8 8) && within 0 63 (fieldNat p[0] 16 8) then
      some (l, BitVec.ofNat 6 (fieldNat p[0] 8 8), BitVec.ofNat 6 (fieldNat p[0] 16 8))
    else none

/-- The index and the fields of SET-LISTEN's words P0 to P3, with an admitted count of 0, if every field is in its range
(R49, R63). -/
def listenOperands (p : Vector Word 6) : Option (ListenNo × ListenEntry) :=
  let ps : Params :=
    { inboundLimit := fieldNat p[2] 8 8, window := fieldNat p[2] 16 8, sendQueueLimit := fieldNat p[2] 24 8,
      inboundQuota := fieldNat p[3] 0 8, resendPeriod := fieldNat p[3] 8 8, retryLimit := fieldNat p[3] 16 8,
      receiptDelay := fieldNat p[3] 24 8 }
  match listenOfField (fieldNat p[0] 0 8), lineOfField (fieldNat p[0] 12 2) with
  | some n, some l =>
    if within 0 63 (fieldNat p[1] 0 8) && within 0 63 (fieldNat p[1] 8 8) && within 0 15 (fieldNat p[1] 16 8)
        && within 0 15 (fieldNat p[1] 24 8) && within 0 63 (fieldNat p[2] 0 8) && ps.inRange
        && within 1 255 (fieldNat p[0] 24 8) then
      some (n, { enabled := p[0].getLsbD 8, mode := if p[0].getLsbD 9 then .ask else .auto, line := l,
                 stationValue := BitVec.ofNat 6 (fieldNat p[1] 0 8), stationMask := BitVec.ofNat 6 (fieldNat p[1] 8 8),
                 anValue := BitVec.ofNat 4 (fieldNat p[1] 16 8), anMask := BitVec.ofNat 4 (fieldNat p[1] 24 8),
                 admissionLimit := fieldNat p[2] 0 8, admitted := 0, params := ps, offerTimeout := fieldNat p[0] 24 8 })
    else none
  | _, _ => none

/-! ### Result words -/

/-- The words of a listen entry that GET-LISTEN returns (R64, R189). -/
def listenWords (e : ListenEntry) : Vector Word 4 :=
  #v[placeBit 8 e.enabled ||| placeBit 9 (modeBit e.mode) ||| place 12 2 (lineField e.line) ||| place 16 8 e.admitted
       ||| place 24 8 e.offerTimeout,
     place 0 8 e.stationValue.toNat ||| place 8 8 e.stationMask.toNat ||| place 16 8 e.anValue.toNat
       ||| place 24 8 e.anMask.toNat,
     place 0 8 e.admissionLimit ||| place 8 8 e.params.inboundLimit ||| place 16 8 e.params.window
       ||| place 24 8 e.params.sendQueueLimit,
     place 0 8 e.params.inboundQuota ||| place 8 8 e.params.resendPeriod ||| place 16 8 e.params.retryLimit
       ||| place 24 8 e.params.receiptDelay]

/-- The end cause and detail fields of a state; absent, 0, outside ENDED (R25). -/
def endFields : AssocState → Nat × Nat
  | .ended c => (endCauseField c, detailField c)
  | _ => (0, 0)

/-- The words that QUERY returns for a slot (R25, R189). A FREE slot gives its generation and zeros. -/
def queryWords (r : SlotRecord) : Vector Word 4 :=
  match r.assoc with
  | none => #v[place 0 16 r.generation.toNat, 0, 0, 0]
  | some a =>
    #v[place 0 16 r.generation.toNat ||| place 16 3 (stateField (some a)) ||| place 20 2 (lineField a.key.line)
         ||| place 24 4 (originField a.origin) ||| place 28 4 (endFields a.state).1,
       place 0 8 a.key.station.toNat ||| place 8 4 a.key.an.toNat ||| place 16 8 a.epoch.toNat
         ||| place 24 8 (endFields a.state).2,
       place 0 6 a.sendQueue.length ||| place 8 4 a.inboundQueue.length ||| place 12 4 a.grant
         ||| place 16 8 a.sendBase.toNat ||| place 24 8 a.nextToSend.toNat,
       place 0 8 a.expected.toNat ||| place 8 8 a.peerLimit.toNat ||| place 16 5 a.retryCount
         ||| place 24 6 a.abandoned ||| placeBit 31 a.hold]

/-- The source byte of a notice (R190). -/
def sourceByte : Option Notice → Nat
  | none => 0xFF
  | some (.slot i _ _) => i.val
  | some (.line .a _) => 0x40
  | some (.line .b _) => 0x41

/-- The reason byte of a notice (R190). -/
def reasonByte : Option Notice → Word
  | none => 0
  | some (.slot _ _ r) =>
    placeBit 0 r.opened ||| placeBit 1 r.offered ||| placeBit 2 r.inbound ||| placeBit 3 r.drained ||| placeBit 4 r.ended
  | some (.line _ r) => placeBit 0 r.suspended ||| placeBit 1 r.down ||| placeBit 2 r.restored

/-- The upper half of a notice: the generation of a slot (R190). -/
def noticeGeneration : Option Notice → Nat
  | some (.slot _ g _) => g.toNat
  | _ => 0

/-- The attention-port word (R190). -/
def noticeWord (n : Option Notice) : Word :=
  place 0 8 (sourceByte n) ||| (reasonByte n <<< 8) ||| place 16 16 (noticeGeneration n)

end Sys2Proof.Machine
end

