-- ==== Sys2Proof/Machine/Ops.lean ====
section
/-! DEFINITION. The shared operations: writing records, the attention list, the reply queues, the buffers, the refresh pass, the
creation of an association, and entry to ENDED. -/

namespace Sys2Proof.Machine

/-! ### Writing parts of the state -/

/-- A vector with a function applied to each element, over the list so that the kernel can evaluate it. -/
def mapVec {α β : Type} {n : Nat} (f : α → β) (v : Vector α n) : Vector β n :=
  ⟨(v.toList.map f).toArray, by simp⟩

/-- The state with a slot's record replaced. -/
def State.setSlotRec (s : State) (i : Slot) (r : SlotRecord) : State := { s with table := s.table.set i r }

/-- The state with the association of a slot replaced; the generation is kept. -/
def State.setAssoc (s : State) (i : Slot) (a : Assoc) : State :=
  s.setSlotRec i { generation := s.generation i, assoc := some a }

/-- The state with a line's record replaced. -/
def State.setLine (s : State) (l : Line) (r : LineRecord) : State :=
  match l with
  | .a => { s with lineA := r }
  | .b => { s with lineB := r }

/-- The state with a listen entry replaced. -/
def State.setListen (s : State) (n : ListenNo) (e : ListenEntry) : State := { s with listen := s.listen.set n e }

/-- The state with the buffer pool replaced. -/
def State.setPool (s : State) (p : Pool) : State := { s with pool := p }

/-- The state with the attention unit replaced. -/
def State.setAttention (s : State) (t : Attention) : State := { s with attention := t }

/-- The pool with a buffer's state replaced. -/
def Pool.setState (p : Pool) (b : BufferNo) (x : BufferState) : Pool := { p with bufferState := p.bufferState.set b x }

/-! ### Tallies (R35) -/

/-- A count that stays at 65535. -/
def bumpTally (n : Nat) : Nat := if n < Config.tallyMax then n + 1 else n

/-- The tallies with one of them raised by one. -/
def Tallies.bump (t : Tallies) : TallyKind → Tallies
  | .check => { t with check := bumpTally t.check }
  | .foreign => { t with foreign := bumpTally t.foreign }
  | .malformed => { t with malformed := bumpTally t.malformed }
  | .idle => { t with idle := bumpTally t.idle }
  | .replyDrop => { t with replyDrop := bumpTally t.replyDrop }

/-- The state with one tally of a line raised by one. -/
def State.bumpTally (s : State) (l : Line) (k : TallyKind) : State :=
  s.setLine l { s.line l with tallies := (s.line l).tallies.bump k }

/-! ### The attention list (R181, R185) -/

/-- A source joins the tail. Where the list was empty the holdoff timer is armed, or the indicator set at once (R185). -/
def Attention.join (t : Attention) (src : Source) : Attention :=
  if t.list.isEmpty then
    if t.holdoff = 0 then { t with list := [src], holdoffTimer := .stopped, indicator := true }
    else { t with list := [src], holdoffTimer := .counting t.holdoff, indicator := false }
  else { t with list := t.list ++ [src] }

/-- The list replaced by a shorter one. Where the list becomes empty the holdoff timer stops and the indicator is cleared
(R185). -/
def Attention.shorten (t : Attention) (rest : List Source) : Attention :=
  if rest.isEmpty && !t.list.isEmpty then { t with list := [], holdoffTimer := .stopped, indicator := false }
  else { t with list := rest }

/-- A source leaves wherever it stands; the others keep their order (R121). -/
def Attention.leave (t : Attention) (src : Source) : Attention := t.shorten (t.list.filter (fun x => x ≠ src))

/-- Raising a reason on a slot (R16, R181). -/
def State.raiseSlot (s : State) (i : Slot) (r : SlotReason) : State :=
  match s.assocAt i with
  | none => s
  | some a =>
    let s1 := s.setAssoc i { a with reasons := a.reasons.raise r }
    if a.reasons.isEmpty then s1.setAttention (s1.attention.join (.slot i)) else s1

/-- Raising a reason on a line (R161, R181). -/
def State.raiseLine (s : State) (l : Line) (r : LineReason) : State :=
  let s1 := s.setLine l { s.line l with reasons := (s.line l).reasons.raise r }
  if (s.line l).reasons.isEmpty then s1.setAttention (s1.attention.join (.line l)) else s1

/-! ### Reply queues (R142) -/

/-- A reply is handed to the queue of a line: left out if identical to an entry, dropped and counted if the queue holds 8, else
queued at the tail. -/
def State.handReply (s : State) (l : Line) (r : Reply) : State :=
  if (s.line l).replies.contains r then s
  else if Config.replyQueueDepth ≤ (s.line l).replies.length then s.bumpTally l .replyDrop
  else s.setLine l { s.line l with replies := (s.line l).replies ++ [r] }

/-- The reply of a kind to an association's station. -/
def Assoc.replyOf (a : Assoc) (k : ReplyKind) : Reply :=
  { kind := k, station := a.key.station, an := a.key.an, epoch := a.epoch }

/-! ### Pending control -/

/-- The record with a kind added to pending control (R15). -/
def Assoc.owe (a : Assoc) (k : ControlKind) : Assoc := { a with pendingControl := a.pendingControl.add k }

/-- The record with the kind added if the condition holds. -/
def Assoc.oweIf (a : Assoc) (b : Bool) (k : ControlKind) : Assoc := if b then a.owe k else a

/-- The move to CLOSING (R77, R107). -/
def Assoc.toClosing (a : Assoc) : Assoc :=
  { a with state := .closing, pendingControl := a.pendingControl.add .close, retryCount := 0, stateTimer := .stopped }

/-! ### The credit refresh arbiter (R96, R132 to R135) -/

/-- The record raised by `n` units: RECEIPT is owed in OPEN, DRAINING and CLOSING when E+G is beyond the last advertised limit
(R96). -/
def Assoc.raised (a : Assoc) (n : Nat) : Assoc :=
  let a1 := { a with grant := a.grant + n }
  a1.oweIf (a1.state.receives && a1.beyondAdvertised) .receipt

/-- A grant raise: G and the reserved count rise by the same number (R96). -/
def State.raiseGrant (s : State) (i : Slot) (a : Assoc) (n : Nat) : State :=
  (s.setAssoc i (a.raised n)).setPool { s.pool with reserved := s.pool.reserved + n }

/-- How many units the association in a slot waits for: 0 when it is not waiting (R95). -/
def Assoc.wants (a : Assoc) : Nat := if a.waiting then a.target - a.grant else 0

/-- The ordinary part of a pass over the slots still to be visited, with the available count that remains (R132, R135). -/
def passLoop : List Slot → Nat → State → State
  | [], _, s => s
  | i :: rest, avail, s =>
    match s.assocAt i with
    | none => passLoop rest avail s
    | some a =>
      if min a.wants avail = 0 then passLoop rest avail s
      else
        let s1 := s.raiseGrant i a (min a.wants avail)
        passLoop rest (avail - min a.wants avail) (s1.setPool { s1.pool with refreshPtr := i })

/-- An ordinary refresh pass (R132). -/
def State.refreshPass (s : State) : State := passLoop (slotsAfter s.pool.refreshPtr) s.available s

/-- A pass for a creation or for ACCEPT: the slot alone first, then an ordinary pass with what remains (R134). -/
def State.servingPass (s : State) (i : Slot) : State :=
  match s.assocAt i with
  | none => s.refreshPass
  | some a =>
    let n := min a.params.inboundQuota s.available
    passLoop (slotsAfter s.pool.refreshPtr) (s.available - n) (if n = 0 then s else s.raiseGrant i a n)

/-! ### Claims -/

/-- A claim in progress: the state so far, whether it has returned a buffer or holds another trigger for a refresh pass, and
the slot its pass serves first (R133, R134). -/
structure Claim where
  st : State
  trigger : Bool
  served : Option Slot
  deriving DecidableEq, Repr

/-- A claim that has done nothing yet. -/
def Claim.begin (s : State) : Claim := { st := s, trigger := false, served := none }

/-- The claim with its state changed. -/
def Claim.update (c : Claim) (f : State → State) : Claim := { c with st := f c.st }

/-- The claim holds a trigger (R133). -/
def Claim.withTrigger (c : Claim) : Claim := { c with trigger := true }

/-- The claim's pass serves a slot first (R134). -/
def Claim.serving (c : Claim) (i : Slot) : Claim := { c with served := some i }

/-- The end of a claim: one pass if it holds a trigger, after all its other effects (R133). -/
def Claim.finish (c : Claim) : State :=
  match c.served with
  | some i => c.st.servingPass i
  | none => if c.trigger then c.st.refreshPass else c.st

/-! ### Buffers -/

/-- A buffer joins the tail of the free list (R126); the return is a trigger (R133). -/
def Claim.returnBuffer (c : Claim) (b : BufferNo) : Claim :=
  (c.update fun s =>
    s.setPool { s.pool.setState b .free with freeList := s.pool.freeList ++ [b] }).withTrigger

/-- The buffer of a send-queue entry that has gone: RETIRING if it is in flight on the association's line, else returned
(R74, R20, R129). -/
def Claim.releaseOutbound (c : Claim) (l : Line) (b : BufferNo) : Claim :=
  if c.st.inFlight l = some b then c.update fun s => s.setPool (s.pool.setState b (.retiring l))
  else c.returnBuffer b

/-- The buffers of removed send-queue entries, in queue order. -/
def Claim.releaseAll (l : Line) : List SendEntry → Claim → Claim
  | [], c => c
  | e :: rest, c => Claim.releaseAll l rest (c.releaseOutbound l e.buffer)

/-- Buffers returned in order (R121). -/
def Claim.returnAll : List InboundEntry → Claim → Claim
  | [], c => c
  | e :: rest, c => Claim.returnAll rest (c.returnBuffer e.buffer)

/-! ### Creation (R4, R7, R18, R22) -/

/-- The lowest-numbered FREE slot (R7). -/
def State.freeSlot (s : State) : Option Slot := allSlots.find? fun i => (s.assocAt i).isNone

/-- The epoch of a host-opened association (R6). -/
def hostEpoch (generation : BitVec 16) : Byte := BitVec.ofNat 8 (generation.toNat % 255 + 1)

/-- The slot of the live association with a key (R18). -/
def State.lookup (s : State) (k : Key) : Option Slot := (s.addressMap.find? fun e => e.key = k).map (·.slot)

/-- The record at creation (R11 to R15). -/
def Assoc.fresh (st : AssocState) (k : Key) (epoch : Byte) (origin : Origin) (p : Params) (outboundLimit offerTimeout : Option Nat)
    (peerLimit : Tag) : Assoc :=
  { state := st, key := k, epoch := epoch, origin := origin, params := p, outboundLimit := outboundLimit,
    offerTimeout := offerTimeout, sendQueue := [], sendBase := 0, nextToSend := 0, sentMark := 0, submitTag := 0,
    peerLimit := peerLimit, retryCount := 0, abandoned := 0, inboundQueue := [], expected := 0, grant := 0, advertised := 0,
    hold := false, stateTimer := .stopped, receiptTimer := .stopped, pendingControl := .empty, reasons := .empty }

/-- The generation a slot takes when it leaves FREE (R4). -/
def State.nextGeneration (s : State) (i : Slot) : BitVec 16 := s.generation i + 1

/-- An association is created in a slot: generation, record and address map entry (R4, R18). -/
def State.create (s : State) (i : Slot) (a : Assoc) : State :=
  let s1 := s.setSlotRec i { generation := s.nextGeneration i, assoc := some a }
  { s1 with addressMap := s1.addressMap ++ [{ key := a.key, slot := i }] }

/-! ### Entry to ENDED (R20) -/

/-- The address map without a key (R18). -/
def State.dropKey (s : State) (k : Key) : State := { s with addressMap := s.addressMap.filter fun e => e.key ≠ k }

/-- The reserved count with a grant given back (R130). -/
def State.giveBack (s : State) (n : Nat) : State := s.setPool { s.pool with reserved := s.pool.reserved - n }

/-- The admitted count of the association's listen entry falls by one (R53). -/
def State.lowerAdmitted (s : State) : Origin → State
  | .host => s
  | .listen n => s.setListen n { s.listenAt n with admitted := (s.listenAt n).admitted - 1 }

/-- The record that entry to ENDED leaves, but for its ENDED reason. -/
def Assoc.endedWith (a : Assoc) (cause : EndCause) : Assoc :=
  { a with state := .ended cause, grant := 0, sendQueue := [], abandoned := a.abandoned + a.sendQueue.length,
           pendingControl := .empty, stateTimer := .stopped, receiptTimer := .stopped }

/-- The effects of entry to ENDED on the record and its neighbours other than the buffers. -/
def State.endRecord (s : State) (i : Slot) (a : Assoc) (cause : EndCause) : State :=
  ((((s.setAssoc i (a.endedWith cause)).dropKey a.key).giveBack a.grant).lowerAdmitted a.origin).raiseSlot i .ended

/-- Entry to ENDED from a live state (R20). A second cause finds the association ENDED and has no effect (R21). -/
def Claim.endAssoc (c : Claim) (i : Slot) (cause : EndCause) : Claim :=
  match c.st.assocAt i with
  | none => c
  | some a =>
    if a.state.isLive then
      (Claim.releaseAll a.key.line a.sendQueue c).update fun s => s.endRecord i a cause
    else c

/-- The associations of a line in a live state enter ENDED in the order of the slots given (R165, R166). -/
def Claim.endLine (l : Line) (cause : EndCause) : List Slot → Claim → Claim
  | [], c => c
  | i :: rest, c =>
    Claim.endLine l cause rest <|
      match c.st.assocAt i with
      | some a => if a.key.line = l then c.endAssoc i cause else c
      | none => c

/-! ### State timer expiries -/

/-- The retry count rises by one; beyond the retry limit the association ends with NO_RESPONSE, else `go` is applied to the
record (R66). -/
def State.bumpRetry (s : State) (i : Slot) (a : Assoc) (go : Assoc → Assoc) : State :=
  let a1 := { a with retryCount := a.retryCount + 1, stateTimer := .stopped }
  if a.params.retryLimit < a1.retryCount then ((Claim.begin (s.setAssoc i a1)).endAssoc i .noResponse).finish
  else s.setAssoc i (go a1)

/-! ### Completion of mailbox commands (R176) -/

/-- The mailbox becomes IDLE with a completion code; on an error the result words stay as they are, which is 0 (R178). -/
def State.complete (s : State) (code : Completion) : State :=
  { s with mailbox := { s.mailbox with latched := none, completion := some code } }

/-- The mailbox becomes IDLE with OK and the result words. -/
def State.completeOk (s : State) (q : Vector Word 4) : State :=
  { s with mailbox := { s.mailbox with latched := none, completion := some .ok, results := q } }

/-- No result words (R175). -/
def noResults : Vector Word 4 := #v[0, 0, 0, 0]

/-- One result word. -/
def oneResult (q : Word) : Vector Word 4 := #v[q, 0, 0, 0]

end Sys2Proof.Machine
end

