-- ==== Sys2Proof/Machine/Mailbox.lean ====
section
/-! DEFINITION. The sixteen mailbox commands and BAD_COMMAND. Each meaning is the completion of the command that the mailbox
holds latched (R176): its tests in the order of R177, then its effects. Where the mailbox is IDLE, or holds another command, the
completion does not occur (log 8). -/

namespace Sys2Proof.Machine

/-- The completion of the latched command, where its code is `code`. -/
def State.onLatched (s : State) (code : Byte) (f : Vector Word 6 → State) : State :=
  match s.mailbox.latched with
  | none => s
  | some m => if m.code = code then f m.params else s

/-- The slot and the association that a handle word names, if the handle is current (R5). -/
def State.current (s : State) (h : Word) : Option (Slot × Assoc) :=
  match slotOfField (fieldNat h 0 8) with
  | none => none
  | some i =>
    match s.assocAt i with
    | none => none
    | some a => if s.generation i = h.extractLsb' 16 16 then some (i, a) else none

/-- A command that takes a handle in P0: STALE unless the handle is current (R177, stage 2). -/
def State.withHandle (s : State) (p : Vector Word 6) (f : Slot → Assoc → State) : State :=
  match s.current p[0] with
  | none => s.complete .stale
  | some (i, a) => f i a

/-! ### Opening (R42, R43, R56, R58) -/

/-- The association that OPEN creates in a slot (R43). -/
def State.opensAssoc (s : State) (i : Slot) (k : Key) (p : Params) : Assoc :=
  (Assoc.fresh .opening k (hostEpoch (s.nextGeneration i)) .host p none none 0).owe .openRequest

/-- A line on which OPEN may create an association (R42, test 2). -/
def LineState.opens : LineState → Bool
  | .active => true
  | .suspended => true
  | .disabled => false
  | .down => false

/-- OPEN with its parameters in range: tests 2 to 4 of R42, then R43. -/
def State.completeOpen (s : State) (k : Key) (p : Params) : State :=
  if !(s.line k.line).state.opens then s.complete .line
  else if (s.lookup k).isSome then s.complete .inUse
  else
    match s.freeSlot with
    | none => s.complete .tableFull
    | some i =>
      (((Claim.begin s).update fun t => t.create i (t.opensAssoc i k p)).serving i).finish.completeOk
        (oneResult (handleWord i (s.nextGeneration i)))

/-- OPEN (R42, R43). -/
def execCmdOpen (s : State) : Host.Outcome State Fault Refusal :=
  .next (s.onLatched codeOpen fun p =>
    match openOperands p with
    | none => s.complete .badParameter
    | some kp => s.completeOpen kp.1 kp.2)

/-- The record that ACCEPT leaves (R56), but for its grant and its OPENED reason. -/
def Assoc.acceptedOffer (a : Assoc) : Assoc :=
  { a with state := .opened, stateTimer := .stopped, retryCount := 0 }.owe .openAccept

/-- ACCEPT (R56). -/
def execCmdAccept (s : State) : Host.Outcome State Fault Refusal :=
  .next (s.onLatched codeAccept fun p => s.withHandle p fun i a =>
    if a.state ≠ .offered then s.complete .state
    else
      (((Claim.begin s).update fun t => (t.setAssoc i a.acceptedOffer).raiseSlot i .opened).serving i).finish.completeOk
        noResults)

/-- REFUSE (R58). -/
def execCmdRefuse (s : State) : Host.Outcome State Fault Refusal :=
  .next (s.onLatched codeRefuse fun p => s.withHandle p fun i a =>
    if a.state ≠ .offered then s.complete .state
    else
      (((Claim.begin s).update fun t => t.handReply a.key.line (a.replyOf (.openRefuse .refusedByHost))).endAssoc i
        .refusedLocal).finish.completeOk noResults)

/-! ### Data (R67, R68, R99 to R101) -/

/-- The record with a message submitted; the resend timer is armed if this left the association stalled (R68, R72). -/
def Assoc.submitted (a : Assoc) (b : BufferNo) (length : Nat) : Assoc :=
  let a1 : Assoc :=
    { a with sendQueue := a.sendQueue ++ [{ tag := a.submitTag, buffer := b, length := length }],
             submitTag := a.submitTag + 1 }
  if !a.stalled && a1.stalled then { a1 with stateTimer := a1.stateTimer.arm a.params.resendPeriod } else a1

/-- SUBMIT for an association and a buffer number in range: tests 3 to 6 of R67, then R68. -/
def State.completeSubmit (s : State) (i : Slot) (a : Assoc) (b : BufferNo) (length : Nat) : State :=
  if a.state ≠ .opened then s.complete .state
  else if !within 1 (a.outboundLimit.getD 0) length then s.complete .badParameter
  else if s.bufferStateAt b ≠ .host then s.complete .notOwner
  else if a.params.sendQueueLimit ≤ a.sendQueue.length then s.complete .queueFull
  else
    ((s.setPool (s.pool.setState b .outbound)).setAssoc i (a.submitted b length)).completeOk
      (oneResult (place 0 8 a.submitTag.toNat))

/-- SUBMIT (R67, R68). -/
def execCmdSubmit (s : State) : Host.Outcome State Fault Refusal :=
  .next (s.onLatched codeSubmit fun p => s.withHandle p fun i a =>
    match bufferOfField (fieldNat p[1] 0 8) with
    | none => s.complete .badParameter
    | some b => s.completeSubmit i a b (fieldNat p[1] 16 8))

/-- The states in which TAKE completes (R101). -/
def AssocState.takes : AssocState → Bool
  | .opening => false
  | .offered => false
  | .opened => true
  | .draining => true
  | .closing => true
  | .ended _ => true

/-- TAKE (R101). -/
def execCmdTake (s : State) : Host.Outcome State Fault Refusal :=
  .next (s.onLatched codeTake fun p => s.withHandle p fun i a =>
    if !a.state.takes then s.complete .state
    else
      match a.inboundQueue with
      | [] => s.complete .empty
      | e :: rest =>
        ((((Claim.begin s).update fun t => t.setAssoc i { a with inboundQueue := rest }).update fun t =>
          t.setPool (t.pool.setState e.buffer .host)).withTrigger).finish.completeOk
            #v[place 0 8 e.buffer.val, place 0 8 e.length, 0, 0])

/-- HOLD (R99). -/
def execCmdHold (s : State) : Host.Outcome State Fault Refusal :=
  .next (s.onLatched codeHold fun p => s.withHandle p fun i a =>
    if !a.state.credits then s.complete .state
    else (s.setAssoc i { a with hold := true }).completeOk noResults)

/-- RESUME (R100). -/
def execCmdResume (s : State) : Host.Outcome State Fault Refusal :=
  .next (s.onLatched codeResume fun p => s.withHandle p fun i a =>
    if !a.state.credits then s.complete .state
    else
      (((Claim.begin s).update fun t => t.setAssoc i { a with hold := false }).withTrigger).finish.completeOk noResults)

/-! ### Ending (R107, R115, R117, R118, R121) -/

/-- What CLOSE does to the record: CLOSING if nothing is left to send, else DRAINING (R107). -/
def Assoc.closes (a : Assoc) : Assoc := if a.sendQueue.isEmpty then a.toClosing else { a with state := .draining }

/-- CLOSE (R107). -/
def execCmdClose (s : State) : Host.Outcome State Fault Refusal :=
  .next (s.onLatched codeClose fun p => s.withHandle p fun i a =>
    if a.state ≠ .opened then s.complete .state
    else (s.setAssoc i a.closes).completeOk noResults)

/-- The reply of an abort (R115). -/
def Assoc.abortReply (a : Assoc) : Reply :=
  a.replyOf (if a.state = .offered then .openRefuse .refusedByHost else .disown)

/-- The abort of one live association (R115). -/
def Claim.abort (c : Claim) (i : Slot) (a : Assoc) : Claim :=
  (c.update fun s => s.handReply a.key.line a.abortReply).endAssoc i .localAbort

/-- ABORT (R115). -/
def execCmdAbort (s : State) : Host.Outcome State Fault Refusal :=
  .next (s.onLatched codeAbort fun p => s.withHandle p fun i a =>
    if !a.state.isLive then s.complete .state
    else ((Claim.begin s).abort i a).finish.completeOk noResults)

/-- A live association of the group (R117). -/
def Assoc.inGroup (a : Assoc) (l : Line) (value mask : Station) : Bool :=
  a.state.isLive && a.key.line = l && agrees a.key.station value mask

/-- The group's associations aborted in the order of the slots given, with the number ended (R118). -/
def Claim.abortGroup (l : Line) (value mask : Station) : List Slot → Claim → Nat → Claim × Nat
  | [], c, n => (c, n)
  | i :: rest, c, n =>
    match c.st.assocAt i with
    | none => Claim.abortGroup l value mask rest c n
    | some a =>
      if a.inGroup l value mask then Claim.abortGroup l value mask rest (c.abort i a) (n + 1)
      else Claim.abortGroup l value mask rest c n

/-- ABORT-GROUP (R117, R118). -/
def execCmdAbortGroup (s : State) : Host.Outcome State Fault Refusal :=
  .next (s.onLatched codeAbortGroup fun p =>
    match groupOperands p with
    | none => s.complete .badParameter
    | some (l, value, mask) =>
      if (s.line l).state = .disabled then s.complete .line
      else
        let (c, n) := Claim.abortGroup l value mask allSlots (Claim.begin s) 0
        c.finish.completeOk (oneResult (place 0 7 n)))

/-- The slot leaves ENDED (R121): its inbound buffers are returned in queue order, it leaves the attention list, and it is
FREE with its generation kept; the claim's pass runs in any case. -/
def Claim.release (c : Claim) (i : Slot) (a : Assoc) : Claim :=
  ((Claim.returnAll a.inboundQueue c).update fun s =>
    (s.setAttention (s.attention.leave (.slot i))).setSlotRec i { generation := s.generation i, assoc := none }).withTrigger

/-- RELEASE (R121). -/
def execCmdRelease (s : State) : Host.Outcome State Fault Refusal :=
  .next (s.onLatched codeRelease fun p => s.withHandle p fun i a =>
    if a.state.isLive then s.complete .state
    else ((Claim.begin s).release i a).finish.completeOk noResults)

/-! ### Buffers (R127, R128) -/

/-- ALLOCATE (R127). -/
def execCmdAllocate (s : State) : Host.Outcome State Fault Refusal :=
  .next (s.onLatched codeAllocate fun _ =>
    match s.pool.freeList with
    | [] => s.complete .noBuffer
    | b :: rest =>
      if (b :: rest).length ≤ s.pool.reserved then s.complete .noBuffer
      else
        (s.setPool { s.pool.setState b .host with freeList := rest }).completeOk (oneResult (place 0 8 b.val)))

/-- FREE (R128). -/
def execCmdFree (s : State) : Host.Outcome State Fault Refusal :=
  .next (s.onLatched codeFree fun p =>
    match bufferOfField (fieldNat p[0] 0 8) with
    | none => s.complete .badParameter
    | some b =>
      if s.bufferStateAt b ≠ .host then s.complete .notOwner
      else ((Claim.begin s).returnBuffer b).finish.completeOk noResults)

/-! ### Tables (R25, R63, R64) -/

/-- QUERY (R25). -/
def execCmdQuery (s : State) : Host.Outcome State Fault Refusal :=
  .next (s.onLatched codeQuery fun p =>
    match slotOfField (fieldNat p[0] 0 8) with
    | none => s.complete .badParameter
    | some i => s.completeOk (queryWords (s.slotRec i)))

/-- SET-LISTEN (R63). The admitted count is kept. -/
def execCmdSetListen (s : State) : Host.Outcome State Fault Refusal :=
  .next (s.onLatched codeSetListen fun p =>
    match listenOperands p with
    | none => s.complete .badParameter
    | some (n, e) => (s.setListen n { e with admitted := (s.listenAt n).admitted }).completeOk noResults)

/-- GET-LISTEN (R64). -/
def execCmdGetListen (s : State) : Host.Outcome State Fault Refusal :=
  .next (s.onLatched codeGetListen fun p =>
    match listenOfField (fieldNat p[0] 0 8) with
    | none => s.complete .badParameter
    | some n => s.completeOk (listenWords (s.listenAt n)))

/-! ### A code that names no command (R177) -/

/-- BAD_COMMAND (R177, stage 1): the latched code names none of the sixteen commands. -/
def execCmdBad (s : State) : Host.Outcome State Fault Refusal :=
  .next (match s.mailbox.latched with
    | none => s
    | some m => if commandCodes.contains m.code then s else s.complete .badCommand)

end Sys2Proof.Machine
end

