-- ==== Sys2Proof/Machine/Frame.lean ====
section
/-! DEFINITION. Frames on the wire: kinds and fields (R31, R32, R34), the frame check sequence (R27), and the coded image of a
transmission (R26, R30). -/

namespace Sys2Proof.Machine

/-- The kind fields of a frame (R31). -/
inductive FrameBody where
  | openRequest (limit credit : Nat)
  | openAccept (limit credit : Nat)
  | openRefuse (reason : RefuseReason)
  | data (tag : Tag) (payload : List Byte)
  | receipt (next : Tag) (credit : Nat)
  | probe
  | close (finalTag : Tag)
  | closeConfirm
  | disown
  deriving DecidableEq, Repr

/-- A frame between the part and a station: the station at the other end, AN, epoch and kind fields. -/
structure Frame where
  station : Station
  an : AssocNo
  epoch : Byte
  body : FrameBody
  deriving DecidableEq, Repr

/-- The kind of a frame. -/
def FrameBody.kind : FrameBody → FrameKind
  | .openRequest _ _ => .openRequest
  | .openAccept _ _ => .openAccept
  | .openRefuse _ => .openRefuse
  | .data _ _ => .data
  | .receipt _ _ => .receipt
  | .probe => .probe
  | .close _ => .close
  | .closeConfirm => .closeConfirm
  | .disown => .disown

/-- The kind codes (R31). -/
def kindCode : FrameKind → Byte
  | .openRequest => 0x11
  | .openAccept => 0x12
  | .openRefuse => 0x13
  | .data => 0x20
  | .receipt => 0x21
  | .probe => 0x22
  | .close => 0x31
  | .closeConfirm => 0x32
  | .disown => 0x3F

/-- The bytes of the kind fields (R31). -/
def FrameBody.fields : FrameBody → List Byte
  | .openRequest limit credit => [BitVec.ofNat 8 limit, BitVec.ofNat 8 credit]
  | .openAccept limit credit => [BitVec.ofNat 8 limit, BitVec.ofNat 8 credit]
  | .openRefuse r => [BitVec.ofNat 8 (refuseCode r)]
  | .data tag payload => tag :: payload
  | .receipt next credit => [next, BitVec.ofNat 8 credit]
  | .probe => []
  | .close finalTag => [finalTag]
  | .closeConfirm => []
  | .disown => []

/-- The header and kind fields of a frame from `src` to `dst` (R31). -/
def frameBytes (dst src : Byte) (f : Frame) : List Byte :=
  dst :: src :: kindCode f.body.kind :: f.an.setWidth 8 :: f.epoch :: f.body.fields

/-- The bytes of a frame that the part sends: source station 0 (R32). -/
def sentBytes (f : Frame) : List Byte := frameBytes (f.station.setWidth 8) 0 f

/-- The bytes of a frame that a station sends to the part: destination station 0 (R31). -/
def stationBytes (f : Frame) : List Byte := frameBytes 0 (f.station.setWidth 8) f

/-- The receive limit and credit of OPEN-REQUEST and OPEN-ACCEPT, if in range (R34). -/
def limitAndCredit (limit credit : Byte) : Option (Nat × Nat) :=
  if within 16 240 limit.toNat && within 0 15 credit.toNat then some (limit.toNat, credit.toNat) else none

/-- The kind fields after the header, by kind code and length (R31, R34). -/
def parseBody (kind : Byte) (fields : List Byte) : Option FrameBody :=
  if kind = kindCode .openRequest then
    match fields with
    | [limit, credit] => (limitAndCredit limit credit).map fun lc => .openRequest lc.1 lc.2
    | _ => none
  else if kind = kindCode .openAccept then
    match fields with
    | [limit, credit] => (limitAndCredit limit credit).map fun lc => .openAccept lc.1 lc.2
    | _ => none
  else if kind = kindCode .openRefuse then
    match fields with
    | [reason] => (refuseOfCode reason.toNat).map .openRefuse
    | _ => none
  else if kind = kindCode .data then
    match fields with
    | tag :: x :: payload => some (.data tag (x :: payload))
    | _ => none
  else if kind = kindCode .receipt then
    match fields with
    | [next, credit] => if within 0 15 credit.toNat then some (.receipt next credit.toNat) else none
    | _ => none
  else if kind = kindCode .probe then
    match fields with
    | [] => some .probe
    | _ => none
  else if kind = kindCode .close then
    match fields with
    | [finalTag] => some (.close finalTag)
    | _ => none
  else if kind = kindCode .closeConfirm then
    match fields with
    | [] => some .closeConfirm
    | _ => none
  else if kind = kindCode .disown then
    match fields with
    | [] => some .disown
    | _ => none
  else none

/-- The frame that the bytes of a frame addressed to station 0 hold, check bytes removed; none where it is malformed (R34). -/
def parseFrame : List Byte → Option Frame
  | _ :: src :: kind :: an :: epoch :: fields =>
    if within 1 62 src.toNat && within 0 15 an.toNat && epoch ≠ 0 then
      (parseBody kind fields).map fun body =>
        { station := src.setWidth 6, an := an.setWidth 4, epoch := epoch, body := body }
    else none
  | _ => none

/-! ### Frame check sequence (R27) -/

/-- The bits of a byte, most significant first. -/
def byteBits (x : Byte) : List Bool :=
  [x.getLsbD 7, x.getLsbD 6, x.getLsbD 5, x.getLsbD 4, x.getLsbD 3, x.getLsbD 2, x.getLsbD 1, x.getLsbD 0]

/-- The check register after one more bit. -/
def crcBit (reg : BitVec 16) (b : Bool) : BitVec 16 :=
  if (reg.getLsbD 15).xor b then (reg <<< 1) ^^^ Config.crcPoly else reg <<< 1

/-- The check register after one more byte, most significant bit first. -/
def crcByte (reg : BitVec 16) (x : Byte) : BitVec 16 := (byteBits x).foldl crcBit reg

/-- The check register after a list of bytes. -/
def crcBytes (reg : BitVec 16) (xs : List Byte) : BitVec 16 := xs.foldl crcByte reg

/-- The two check bytes of a frame, high-order byte first. -/
def checkBytes (xs : List Byte) : List Byte :=
  let c := crcBytes Config.crcPreset xs
  [c.extractLsb' 8 8, c.extractLsb' 0 8]

/-! ### Coding (R26) -/

/-- Every byte that equals the mark byte is sent as the escaped mark. -/
def escape : List Byte → List Byte
  | [] => []
  | x :: rest => if x = Config.mark then Config.mark :: Config.mark :: escape rest else x :: escape rest

/-- The frame's bytes with the check bytes, coded, without the start and end patterns. -/
def codedBody (xs : List Byte) : List Byte := escape (xs ++ checkBytes xs)

/-- A whole transmission: start pattern, coded frame and check bytes, end pattern. -/
def wireImage (xs : List Byte) : List Byte :=
  [Config.mark, Config.startCode] ++ codedBody xs ++ [Config.mark, Config.endCode]

/-- The bits of bytes as received, first received first. -/
def bitsOf (xs : List Byte) : List Bool := xs.flatMap byteBits

end Sys2Proof.Machine
end

