-- ==== Sys2Proof/Machine/Framer.lean ====
section
/-! DEFINITION. The receive side of the line framer (R26 to R29), bit by bit, and the three commands that close what it
receives. -/

namespace Sys2Proof.Machine

/-- What the framer reports while it takes bits. -/
inductive RxEvent where
  /-- A frame reached its end pattern with a good check and a length from 7 to 248 (R28). -/
  | delivered (frame : Delivered)
  /-- A frame was discarded, to be counted in CHECK (R29). -/
  | discarded
  deriving DecidableEq, Repr

/-- Outside a frame, with nothing of the search kept. -/
def RxFramer.idle : RxFramer := .hunting 0

/-- A frame begins: nothing received, the check register preset (R26, R27). -/
def RxFramer.opened : RxFramer := .collecting [] Config.crcPreset 0 false 0 0

/-- A frame is in progress. -/
def RxFramer.inFrame : RxFramer → Bool
  | .collecting _ _ _ _ _ _ => true
  | _ => false

/-- A byte of the frame, coding removed. At a length of 249 the frame is given up (R29). -/
def RxFramer.collect (bytes : List Byte) (check : BitVec 16) (length : Nat) (x : Byte) : RxFramer × List RxEvent :=
  if length + 1 = Config.frameOver then (.idle, [.discarded])
  else (.collecting (bytes ++ [x]) (crcByte check x) (length + 1) false 0 0, [])

/-- The end pattern: the frame is delivered, without its check bytes, or discarded (R28, R29). -/
def RxFramer.atEnd (bytes : List Byte) (check : BitVec 16) (length : Nat) : RxEvent :=
  if check = 0 ∧ Config.frameMin ≤ length ∧ length < Config.frameOver then
    .delivered { bytes := bytes.take (bytes.length - 2) }
  else .discarded

/-- A whole byte received inside a frame (R26): a mark byte is held until the byte after it shows which pattern it is. -/
def RxFramer.takeByte (bytes : List Byte) (check : BitVec 16) (length : Nat) (marked : Bool) (x : Byte) :
    RxFramer × List RxEvent :=
  if marked then
    if x = Config.mark then RxFramer.collect bytes check length x
    else if x = Config.endCode then (.idle, [RxFramer.atEnd bytes check length])
    else if x = Config.startCode then (.opened, [.discarded])
    else (.idle, [.discarded])
  else if x = Config.mark then (.collecting bytes check length true 0 0, [])
  else RxFramer.collect bytes check length x

/-- The byte value with one more bit, received most significant bit first. -/
def shiftIn (value : Byte) (b : Bool) : Byte := (value <<< 1) ||| BitVec.ofNat 8 b.toNat

/-- One bit received (R26). -/
def RxFramer.takeBit (f : RxFramer) (b : Bool) : RxFramer × List RxEvent :=
  match f with
  | .hunting window =>
    if shiftIn window b = Config.mark then (.paired 0 0, []) else (.hunting (shiftIn window b), [])
  | .paired bits value =>
    if bits < 7 then (.paired (bits + 1) (shiftIn value b), [])
    else if shiftIn value b = Config.startCode then (.opened, [])
    else if shiftIn value b = Config.mark then (.paired 0 0, [])
    else (.idle, [])
  | .collecting bytes check length marked bits value =>
    if bits < 7 then (.collecting bytes check length marked (bits + 1) (shiftIn value b), [])
    else RxFramer.takeByte bytes check length marked (shiftIn value b)

/-- Bits received one after another, with the events in order. -/
def RxFramer.feed : RxFramer → List Bool → RxFramer × List RxEvent
  | f, [] => (f, [])
  | f, b :: rest =>
    let (f1, e1) := f.takeBit b
    let (f2, e2) := RxFramer.feed f1 rest
    (f2, e1 ++ e2)

/-- What an event does to the line: a delivered frame waits for its dispatch claim, a discarded one is counted (R28, R29). -/
def LineRecord.takeEvent (r : LineRecord) : RxEvent → LineRecord
  | .delivered d => { r with arrived := r.arrived ++ [d] }
  | .discarded => { r with tallies := r.tallies.bump .check }

/-- Bits received on a line. The framer receives only while the line is ACTIVE (R28). -/
def LineRecord.receive (r : LineRecord) (bits : List Bool) : LineRecord :=
  if r.state = .active then
    let (f, events) := r.rx.feed bits
    events.foldl LineRecord.takeEvent { r with rx := f }
  else r

/-- Bits received on a line of the part; none while the reset input is asserted (R191). -/
def State.receive (s : State) (l : Line) (bits : List Bool) : State :=
  if s.resetAsserted then s else s.setLine l ((s.line l).receive bits)

/-- The framer stops receiving: a frame in progress is discarded and counted in CHECK (R29). -/
def LineRecord.dropReception (r : LineRecord) : LineRecord :=
  if r.rx.inFrame then { r with rx := .idle, tallies := r.tallies.bump .check } else { r with rx := .idle }

/-- The bytes that close a frame given up for a cause (R29). -/
def abortBytes : AbortCause → List Byte
  | .abortPattern => [Config.mark, Config.abortCode]
  | .violation second => [Config.mark, second]
  | .startPattern => [Config.mark, Config.startCode]
  | .overLong => []

/-- START_PATTERN (R26): the bits received since the framer's last event, then a mark byte followed by 0x01. -/
def execStartPattern (l : Line) (bits : List Bool) (s : State) : Host.Outcome State Fault Refusal :=
  .next (s.receive l (bits ++ bitsOf [Config.mark, Config.startCode]))

/-- FRAME_ARRIVAL (R28): the coded bytes received since the framer's last event, then the end pattern. -/
def execFrameArrival (l : Line) (coded : List Byte) (s : State) : Host.Outcome State Fault Refusal :=
  .next (s.receive l (bitsOf (coded ++ [Config.mark, Config.endCode])))

/-- FRAME_ABORTED (R29): the coded bytes received since the framer's last event, then the bytes of the cause. -/
def execFrameAborted (l : Line) (coded : List Byte) (cause : AbortCause) (s : State) : Host.Outcome State Fault Refusal :=
  .next (s.receive l (bitsOf (coded ++ abortBytes cause)))

end Sys2Proof.Machine
end

