-- ==== Sys2Proof/Machine/Receive.lean ====
section
/-! DEFINITION. The receive dispatcher: its tests (R33), the lookup (R36 to R39), and what each kind of frame does to the association
it reaches or to the listen table (chapters 3 to 6). -/

namespace Sys2Proof.Machine

/-- A reply that carries a frame's station, AN and epoch (R40). -/
def Frame.replyOf (f : Frame) (k : ReplyKind) : Reply :=
  { kind := k, station := f.station, an := f.an, epoch := f.epoch }

/-- A reply handed in a claim. -/
def Claim.reply (c : Claim) (l : Line) (r : Reply) : Claim := c.update fun s => s.handReply l r

/-! ### Listen admission (R50 to R55) -/

/-- A listen entry matches an OPEN-REQUEST (R50). -/
def ListenEntry.matchesRequest (e : ListenEntry) (l : Line) (f : Frame) : Bool :=
  e.enabled && e.line = l && agrees f.station e.stationValue e.stationMask && agrees f.an e.anValue e.anMask

/-- The listen entries in index order. -/
def allListen : List ListenNo := [0, 1, 2, 3, 4, 5, 6, 7]

/-- The first entry that matches (R51). -/
def State.firstMatch (s : State) (l : Line) (f : Frame) : Option ListenNo :=
  allListen.find? fun n => (s.listenAt n).matchesRequest l f

/-- The record that admission through an entry makes (R52), in the state and with the timer and pending control of its mode
(R54, R55). -/
def admittedAssoc (l : Line) (f : Frame) (limit credit : Nat) (n : ListenNo) (e : ListenEntry) : Assoc :=
  let a (st : AssocState) : Assoc :=
    .fresh st { line := l, station := f.station, an := f.an } f.epoch (.listen n) e.params (some limit) (some e.offerTimeout)
      (BitVec.ofNat 8 credit)
  match e.mode with
  | .auto => (a .opened).owe .openAccept
  | .ask => { a .offered with stateTimer := .counting e.offerTimeout }

/-- Admission through entry `n` into slot `i` (R52, R54, R55). -/
def Claim.admitThrough (c : Claim) (l : Line) (f : Frame) (limit credit : Nat) (n : ListenNo) (i : Slot) : Claim :=
  let e := c.st.listenAt n
  let c1 := c.update fun s =>
    (s.create i (admittedAssoc l f limit credit n e)).setListen n { e with admitted := e.admitted + 1 }
  match e.mode with
  | .auto => (c1.update fun s => s.raiseSlot i .opened).serving i
  | .ask => c1.update fun s => s.raiseSlot i .offered

/-- Listen admission of an OPEN-REQUEST (R51). -/
def Claim.listenAdmission (c : Claim) (l : Line) (f : Frame) (limit credit : Nat) : Claim :=
  match c.st.firstMatch l f with
  | none => c.reply l (f.replyOf (.openRefuse .noListener))
  | some n =>
    if (c.st.listenAt n).admissionLimit ≤ (c.st.listenAt n).admitted then
      c.reply l (f.replyOf (.openRefuse .admissionFull))
    else
      match c.st.freeSlot with
      | none => c.reply l (f.replyOf (.openRefuse .tableFull))
      | some i => c.admitThrough l f limit credit n i

/-! ### Frames without an association, and of another epoch -/

/-- No live association has the frame's key (R37). -/
def Claim.noAssociation (c : Claim) (l : Line) (f : Frame) : Claim :=
  match f.body with
  | .openRequest limit credit => c.listenAdmission l f limit credit
  | .close _ => c.reply l (f.replyOf .closeConfirm)
  | .data _ _ | .receipt _ _ | .probe | .openAccept _ _ => c.reply l (f.replyOf .disown)
  | .openRefuse _ | .closeConfirm | .disown => c

/-- A remote restart (R62): the old association ends, then listen admission takes the frame. -/
def Claim.restart (c : Claim) (l : Line) (f : Frame) (i : Slot) (limit credit : Nat) : Claim :=
  (c.endAssoc i .remoteReset).listenAdmission l f limit credit

/-- The crossing rule (R48). -/
def Claim.crossing (c : Claim) (l : Line) (f : Frame) : Claim := c.reply l (f.replyOf (.openRefuse .crossed))

/-- A live association has the key and another epoch (R38). -/
def Claim.otherEpoch (c : Claim) (l : Line) (f : Frame) (i : Slot) (a : Assoc) : Claim :=
  match f.body with
  | .openRequest limit credit => if a.state = .opening then c.crossing l f else c.restart l f i limit credit
  | .close _ => c.reply l (f.replyOf .closeConfirm)
  | .data _ _ | .receipt _ _ | .probe | .openAccept _ _ => c.reply l (f.replyOf .disown)
  | .openRefuse _ | .closeConfirm | .disown => c

/-! ### Opening frames (R46, R61) -/

/-- The record that OPEN-ACCEPT leaves in OPENING (R46), but for its OPENED reason. -/
def Assoc.accepted (a : Assoc) (limit credit : Nat) : Assoc :=
  let a1 : Assoc :=
    { a with outboundLimit := some limit, peerLimit := BitVec.ofNat 8 credit, sendBase := 0, nextToSend := 0, sentMark := 0,
             submitTag := 0, state := .opened, retryCount := 0, stateTimer := .stopped,
             pendingControl := a.pendingControl.drop .openRequest }
  a1.oweIf a1.beyondAdvertised .receipt

/-- A duplicate OPEN-REQUEST in OPEN, DRAINING or CLOSING (R61). -/
def Assoc.duplicateOpen (a : Assoc) : Assoc := (a.owe .openAccept).oweIf (a.expected ≠ 0) .receipt

/-! ### RECEIPT (R73 to R78) -/

/-- Whichever of two tags lies at the greater distance from `base` (R75). -/
def laterTag (base x y : Tag) : Tag := if tagDistance base x < tagDistance base y then y else x

/-- The tag positions after an in-range RECEIPT in OPEN or DRAINING (R74, R75). -/
def Assoc.advance (a : Assoc) (next : Tag) (credit : Nat) : Assoc :=
  let f := tagDistance a.sendBase next
  { a with
    sendQueue := a.sendQueue.drop f
    sendBase := next
    nextToSend := if tagDistance a.sendBase a.nextToSend < f then next else a.nextToSend
    peerLimit := laterTag next a.peerLimit (next + BitVec.ofNat 8 credit) }

/-- Retry count and resend timer after a RECEIPT in OPEN or DRAINING (R76). -/
def Assoc.settle (a : Assoc) (advanced : Bool) : Assoc :=
  if advanced then
    { a with retryCount := 0, stateTimer := if a.timerNeeded then a.stateTimer.arm a.params.resendPeriod else .stopped }
  else
    { a with retryCount := if a.unreceipted = 0 then 0 else a.retryCount,
             stateTimer := if a.timerNeeded then a.stateTimer else .stopped }

/-- The record after an in-range RECEIPT in OPEN or DRAINING (R74 to R77). -/
def Assoc.receipted (a : Assoc) (next : Tag) (credit : Nat) : Assoc :=
  let a1 := (a.advance next credit).settle (tagDistance a.sendBase next ≠ 0)
  if a.state = .draining && !a.sendQueue.isEmpty && a1.sendQueue.isEmpty then a1.toClosing else a1

/-- A RECEIPT at an association in OPEN or DRAINING (R73 to R77). -/
def Claim.receiptSending (c : Claim) (i : Slot) (a : Assoc) (next : Tag) (credit : Nat) : Claim :=
  let f := tagDistance a.sendBase next
  if f ≤ tagDistance a.sendBase a.sentMark then
    let c1 := (Claim.releaseAll a.key.line (a.sendQueue.take f) c).update fun s => s.setAssoc i (a.receipted next credit)
    if !a.sendQueue.isEmpty && (a.sendQueue.drop f).isEmpty then c1.update fun s => s.raiseSlot i .drained else c1
  else if f ≤ 127 then c.endAssoc i (.protocol .badReceipt)
  else c.update fun s => s.setAssoc i (a.settle false)

/-- A RECEIPT at an association in CLOSING (R78). -/
def Claim.receiptClosing (c : Claim) (i : Slot) (a : Assoc) (next : Tag) (credit : Nat) : Claim :=
  let f := tagDistance a.sendBase next
  if f = 0 then
    c.update fun s => s.setAssoc i { a with peerLimit := laterTag next a.peerLimit (next + BitVec.ofNat 8 credit) }
  else if f ≤ 127 then c.endAssoc i (.protocol .badReceipt)
  else c

/-! ### DATA (R86 to R91) -/

/-- The classes of an arriving tag (R86). -/
inductive DataClass where
  | expected
  | outOfOrder
  | duplicate
  | beyondCredit
  deriving DecidableEq, Repr

/-- The class of a tag at distance `d` from E with grant `g` (R86). -/
def dataClass (d g : Nat) : DataClass :=
  if d = 0 ∧ 0 < g then .expected
  else if 1 ≤ d ∧ d < g then .outOfOrder
  else if 224 ≤ d then .duplicate
  else .beyondCredit

/-- The record after an acceptance (R88, R89), but for its INBOUND reason. -/
def Assoc.acceptedData (a : Assoc) (b : BufferNo) (length : Nat) : Assoc :=
  let a1 : Assoc :=
    { a with inboundQueue := a.inboundQueue ++ [{ buffer := b, length := length }], expected := a.expected + 1,
             grant := a.grant - 1 }
  if a.params.receiptDelay = 0 then a1.owe .receipt
  else if a.receiptTimer = .stopped then { a1 with receiptTimer := a.receiptTimer.arm a.params.receiptDelay }
  else a1

/-- An acceptance (R88). None where the free list is empty, which R130 rules out (log 17). -/
def Claim.acceptData (c : Claim) (i : Slot) (a : Assoc) (payload : List Byte) : Option Claim :=
  match c.st.pool.freeList with
  | [] => none
  | b :: rest =>
    let p := c.st.pool
    let c1 := c.update fun s =>
      (s.setPool { p.setState b .inbound with freeList := rest, reserved := p.reserved - 1,
                                              memory := Memory.writeBytes p.memory (Memory.cell b 0) payload }).setAssoc i
        (a.acceptedData b payload.length)
    some (if a.inboundQueue.isEmpty then c1.update fun s => s.raiseSlot i .inbound else c1)

/-- A DATA frame at an association in OPEN, DRAINING or CLOSING (R87 to R91). -/
def Claim.dataArrival (c : Claim) (i : Slot) (a : Assoc) (tag : Tag) (payload : List Byte) : Option Claim :=
  if a.params.inboundLimit < payload.length then some (c.endAssoc i (.protocol .oversize))
  else
    match dataClass (tagDistance a.expected tag) a.grant with
    | .expected => c.acceptData i a payload
    | .outOfOrder | .duplicate => some (c.update fun s => s.setAssoc i (a.owe .receipt))
    | .beyondCredit => some (c.endAssoc i (.protocol .creditExceeded))

/-! ### CLOSE (R110, R111) -/

/-- A CLOSE at an association in OPEN, DRAINING or CLOSING. -/
def Claim.closeArrival (c : Claim) (i : Slot) (a : Assoc) (finalTag : Tag) : Claim :=
  if finalTag = a.expected then
    (c.reply a.key.line (a.replyOf .closeConfirm)).endAssoc i (if a.state = .closing then .localClose else .remoteClose)
  else c.endAssoc i (.protocol .closeMismatch)

/-! ### The association's own frames (R39) -/

/-- A live association has the key and the same epoch (R39, and the table of 2.8). -/
def Claim.sameEpoch (c : Claim) (l : Line) (f : Frame) (i : Slot) (a : Assoc) : Option Claim :=
  match f.body, a.state with
  | .disown, _ => some (c.endAssoc i .disowned)
  | .openRequest _ _, .opening => some (c.crossing l f)
  | .openRequest _ _, .opened => some (c.update fun s => s.setAssoc i a.duplicateOpen)
  | .openRequest _ _, .draining => some (c.update fun s => s.setAssoc i a.duplicateOpen)
  | .openRequest _ _, .closing => some (c.update fun s => s.setAssoc i a.duplicateOpen)
  | .openAccept limit credit, .opening =>
    some (c.update fun s => (s.setAssoc i (a.accepted limit credit)).raiseSlot i .opened)
  | .openRefuse reason, .opening => some (c.endAssoc i (.refused reason))
  | .data tag payload, .opened => c.dataArrival i a tag payload
  | .data tag payload, .draining => c.dataArrival i a tag payload
  | .data tag payload, .closing => c.dataArrival i a tag payload
  | .receipt next credit, .opened => some (c.receiptSending i a next credit)
  | .receipt next credit, .draining => some (c.receiptSending i a next credit)
  | .receipt next credit, .closing => some (c.receiptClosing i a next credit)
  | .probe, .opened => some (c.update fun s => s.setAssoc i (a.owe .receipt))
  | .probe, .draining => some (c.update fun s => s.setAssoc i (a.owe .receipt))
  | .probe, .closing => some (c.update fun s => s.setAssoc i (a.owe .receipt))
  | .close finalTag, .opened => some (c.closeArrival i a finalTag)
  | .close finalTag, .draining => some (c.closeArrival i a finalTag)
  | .close finalTag, .closing => some (c.closeArrival i a finalTag)
  | .closeConfirm, .closing => some (c.endAssoc i .localClose)
  | _, _ => some c

/-- The lookup and the action it leads to (R36). -/
def Claim.dispatch (c : Claim) (l : Line) (f : Frame) : Option Claim :=
  match c.st.lookup { line := l, station := f.station, an := f.an } with
  | none => some (c.noAssociation l f)
  | some i =>
    match c.st.assocAt i with
    | none => some (c.noAssociation l f)
    | some a => if a.epoch = f.epoch then c.sameEpoch l f i a else some (c.otherEpoch l f i a)

/-- What the tests of R33 say of a frame. -/
inductive Verdict where
  /-- The line is no longer ACTIVE: discarded, counted in no tally. -/
  | lost
  /-- Discarded and counted. -/
  | counted (k : TallyKind)
  /-- Well formed: to lookup. -/
  | wellFormed (f : Frame)
  deriving DecidableEq, Repr

/-- The tests of R33, in order. -/
def State.judge (s : State) (l : Line) (d : Delivered) : Verdict :=
  if (s.line l).state ≠ .active then .lost
  else if !s.running then .counted .idle
  else if d.bytes.head? ≠ some 0 then .counted .foreign
  else
    match parseFrame d.bytes with
    | none => .counted .malformed
    | some f => .wellFormed f

/-- The line without its oldest delivered frame. -/
def State.popArrived (s : State) (l : Line) : State :=
  s.setLine l { s.line l with arrived := (s.line l).arrived.tail }

/-- The claim of one delivered frame, taken off the line's list (R33, R36). -/
def State.dispatchFrame (s : State) (l : Line) (d : Delivered) : Option State :=
  match s.judge l d with
  | .lost => some s
  | .counted k => some (s.bumpTally l k)
  | .wellFormed f => ((Claim.begin s).dispatch l f).map Claim.finish

/-- RECEIVE_DISPATCH (R36): the claim for the oldest delivered frame of the line. With no frame waiting the event does not
occur (log 1). -/
def execReceiveDispatch (l : Line) (s : State) : Host.Outcome State Fault Refusal :=
  match (s.line l).arrived with
  | [] => .next s
  | d :: _ =>
    match (s.popArrived l).dispatchFrame l d with
    | some t => .next t
    | none => .fault .acceptanceWithoutBuffer

end Sys2Proof.Machine
end

