-- ==== Sys2Proof/Machine/Timebase.lean ====
section
/-! DEFINITION. The timebase and the timers: what each timer's expiry does, the tick at one timer, the tick at all of them, and the
time that passes (R153 to R159). -/

namespace Sys2Proof.Machine

/-! ### Expiries of association timers -/

/-- The open retry timer expires in OPENING (R45). -/
def State.openRetry (s : State) (i : Slot) (a : Assoc) : State := s.bumpRetry i a fun a1 => a1.owe .openRequest

/-- The offer timer expires in OFFERED (R59). -/
def State.offerExpires (s : State) (i : Slot) (a : Assoc) : State :=
  ((Claim.begin (s.handReply a.key.line (a.replyOf (.openRefuse .offerExpired)))).endAssoc i .offerExpired).finish

/-- What a resend expiry does to a record that does not end: go back, or owe PROBE when stalled (R79, R80). -/
def Assoc.resend (a : Assoc) : Assoc :=
  if 0 < a.unreceipted then { a with nextToSend := a.sendBase }
  else if a.stalled then a.owe .probe
  else a

/-- The resend timer expires in OPEN or DRAINING (R79, R80). -/
def State.resendExpires (s : State) (i : Slot) (a : Assoc) : State := s.bumpRetry i a Assoc.resend

/-- The close timer expires in CLOSING (R81). -/
def State.closeRetry (s : State) (i : Slot) (a : Assoc) : State := s.bumpRetry i a fun a1 => a1.owe .close

/-- The state timer expires in the role of the state that the association then holds (R155, section 9.5). In ENDED it is
stopped (R20). -/
def State.stateExpires (s : State) (i : Slot) (a : Assoc) : State :=
  match a.state with
  | .opening => s.openRetry i a
  | .offered => s.offerExpires i a
  | .opened => s.resendExpires i a
  | .draining => s.resendExpires i a
  | .closing => s.closeRetry i a
  | .ended _ => s.setAssoc i { a with stateTimer := .stopped }

/-- The receipt timer expires (R89, R93): RECEIPT is owed in OPEN, DRAINING and CLOSING. -/
def State.receiptExpires (s : State) (i : Slot) (a : Assoc) : State :=
  s.setAssoc i (({ a with receiptTimer := .stopped }).oweIf a.state.receives .receipt)

/-! ### Expiries of the grace and holdoff timers -/

/-- A line gone DOWN or DISABLED: the associations end in slot order, then the reply queue and the burst count are emptied
(R165 steps 1 to 3, R166 steps 1 to 3). -/
def State.loseLine (s : State) (l : Line) (st : LineState) (cause : EndCause) : Claim :=
  let c := Claim.begin (s.setLine l { s.line l with state := st, graceTimer := .stopped })
  (Claim.endLine l cause allSlots c).update fun t => t.setLine l { t.line l with replies := [], burst := 0 }

/-- The line goes DOWN (R165). -/
def State.goDown (s : State) (l : Line) : State :=
  ((s.loseLine l .down .lineDown).update fun t => t.raiseLine l .down).finish

/-- The grace timer expires: a SUSPENDED line goes DOWN (R165). -/
def State.graceExpires (s : State) (l : Line) : State :=
  if (s.line l).state = .suspended then s.goDown l else s.setLine l { s.line l with graceTimer := .stopped }

/-- The holdoff timer expires: the indicator is set (R185). -/
def State.holdoffExpires (s : State) : State :=
  s.setAttention { s.attention with holdoffTimer := .stopped, indicator := true }

/-! ### The tick at one timer -/

/-- The expiry of a timer, at the block that owns it (R155). -/
def State.expire (s : State) : TimerName → State
  | .assocState i =>
    match s.assocAt i with
    | none => s
    | some a => s.stateExpires i a
  | .receipt i =>
    match s.assocAt i with
    | none => s
    | some a => s.receiptExpires i a
  | .grace l => s.graceExpires l
  | .holdoff => s.holdoffExpires

/-- A timer with its remaining ticks replaced. -/
def State.setTimer (s : State) (t : Timer) : TimerName → State
  | .assocState i =>
    match s.assocAt i with
    | none => s
    | some a => s.setAssoc i { a with stateTimer := t }
  | .receipt i =>
    match s.assocAt i with
    | none => s
    | some a => s.setAssoc i { a with receiptTimer := t }
  | .grace l => s.setLine l { s.line l with graceTimer := t }
  | .holdoff => s.setAttention { s.attention with holdoffTimer := t }

/-- A tick reaches a timer (R155): one that counts and may count loses a remaining tick, and where that was its last it expires in
the same claim. -/
def State.reach (s : State) (x : TimerName) : State :=
  match s.timerAt x with
  | .stopped => s
  | .counting n =>
    if s.mayCount x then (if n ≤ 1 then s.expire x else s.setTimer (.counting (n - 1)) x) else s

/-- The tick is noted as taken at a timer. Where no tick was being taken, the phase has reached the interval: it starts again from
zero (R153). -/
def State.noteTick (s : State) (x : TimerName) : State :=
  { s with timebase :=
    match s.timebase.taken with
    | none => { s.timebase with phase := 0, taken := some [x] }
    | some xs => { s.timebase with taken := some (x :: xs) } }

/-- The tick taken at one timer alone (R155). A timer that has taken it does not take it twice. -/
def State.tickAt (s : State) (x : TimerName) : State :=
  if s.ticks && !s.tookTick x then (s.noteTick x).reach x else s

/-! ### The tick at every timer -/

/-- The tick is over: every timer has taken it. -/
def State.closeTick (s : State) : State := { s with timebase := { s.timebase with taken := none } }

/-- The tick reaches every timer that has not taken it, one after another, and is over (R155). -/
def State.tickAll (s : State) : State := (allTimers.foldl State.tickAt s).closeTick

/-- The tick that is being taken timer by timer, if there is one, reaches the timers that have not taken it. -/
def State.finishTick (s : State) : State :=
  if s.ticks && s.timebase.taken.isSome then s.tickAll else s

/-- TICK (R153, R155): the phase reaches the interval. -/
def execTick (s : State) (which : Option TimerName := none) : Host.Outcome State Fault Refusal :=
  .next (match which with
    | none => if s.ticks then s.tickAll else s
    | some x => s.tickAt x)

/-- One unit of 100 microseconds passes; a tick occurs where the phase reaches the interval (R153, log 2). -/
def State.elapse (s : State) : State :=
  if s.ticks then
    let t := s.finishTick
    if t.timebase.interval ≤ t.timebase.phase + 1 then t.tickAll
    else { t with timebase := { t.timebase with phase := t.timebase.phase + 1 } }
  else s

/-! ### The expiry rows -/

/-- The tick at a timer that it expires, where the timer's owner is as the row says (log 3). -/
def State.expiryAt (s : State) (x : TimerName) (owner : Bool) : State :=
  if owner && s.expiresAt x then s.tickAt x else s

/-- The slot holds an association in one of the states. -/
def State.slotIn (s : State) (i : Slot) (ok : AssocState → Bool) : Bool := (s.assocAt i).elim false fun a => ok a.state

/-- OPEN_RETRY_EXPIRY (R45). -/
def execOpenRetryExpiry (i : Slot) (s : State) : Host.Outcome State Fault Refusal :=
  .next (s.expiryAt (.assocState i) (s.slotIn i fun st => st = .opening))

/-- OFFER_EXPIRY (R59). -/
def execOfferExpiry (i : Slot) (s : State) : Host.Outcome State Fault Refusal :=
  .next (s.expiryAt (.assocState i) (s.slotIn i fun st => st = .offered))

/-- RESEND_EXPIRY (R79, R80). -/
def execResendExpiry (i : Slot) (s : State) : Host.Outcome State Fault Refusal :=
  .next (s.expiryAt (.assocState i) (s.slotIn i AssocState.sends))

/-- CLOSE_TIMER_EXPIRY (R81). -/
def execCloseTimerExpiry (i : Slot) (s : State) : Host.Outcome State Fault Refusal :=
  .next (s.expiryAt (.assocState i) (s.slotIn i fun st => st = .closing))

/-- RECEIPT_TIMER_EXPIRY (R89, R93). -/
def execReceiptTimerExpiry (i : Slot) (s : State) : Host.Outcome State Fault Refusal :=
  .next (s.expiryAt (.receipt i) (s.slotIn i AssocState.receives))

/-- GRACE_EXPIRY (R165). -/
def execGraceExpiry (l : Line) (s : State) : Host.Outcome State Fault Refusal :=
  .next (s.expiryAt (.grace l) ((s.line l).state = .suspended))

/-- HOLDOFF_EXPIRY (R185). -/
def execHoldoffExpiry (s : State) : Host.Outcome State Fault Refusal := .next (s.expiryAt .holdoff true)

end Sys2Proof.Machine
end

