-- ==== Sys2Proof/Machine/Transmit.lean ====
section
/-! DEFINITION. The line transmitters: the choice of the next frame (R144 to R147), the begin of a transmission (R148), its
completion (R149) and its cut (R150). -/

namespace Sys2Proof.Machine

/-! ### The choice (R140, R144 to R147) -/

/-- What a transmission begin sends. -/
inductive Choice where
  | reply (r : Reply) (rest : List Reply)
  | control (i : Slot) (a : Assoc) (k : ControlKind)
  | data (i : Slot) (a : Assoc) (e : SendEntry)
  deriving DecidableEq, Repr

/-- The control candidate in a slot: an association of the line with a non-empty pending control set, and the kind of its
turn (R146). -/
def State.controlAt (s : State) (l : Line) (i : Slot) : Option Choice :=
  match s.assocAt i with
  | none => none
  | some a => if a.key.line = l then a.pendingControl.first.map fun k => .control i a k else none

/-- The data candidate in a slot: a sendable association of the line, and its entry at next-to-send (R147). -/
def State.dataAt (s : State) (l : Line) (i : Slot) : Option Choice :=
  match s.assocAt i with
  | none => none
  | some a => if a.key.line = l && s.sendable a then a.nextEntry.map fun e => .data i a e else none

/-- The control frame of the next turn (R146). -/
def State.controlTurn (s : State) (l : Line) : Option Choice :=
  (slotsAfter (s.line l).controlPtr).findSome? (s.controlAt l)

/-- The DATA frame of the next turn (R147). -/
def State.dataTurn (s : State) (l : Line) : Option Choice :=
  (slotsAfter (s.line l).dataPtr).findSome? (s.dataAt l)

/-- The reply at the head of the queue. -/
def State.replyTurn (s : State) (l : Line) : Option Choice :=
  match (s.line l).replies with
  | [] => none
  | r :: rest => some (.reply r rest)

/-- The arbiter's choice by the four steps of R144; none when no work exists. -/
def State.choose (s : State) (l : Line) : Option Choice :=
  (if (s.line l).burst = Config.burstLimit then s.dataTurn l else none)
    <|> s.replyTurn l <|> s.controlTurn l <|> s.dataTurn l

/-! ### The frame (R32) -/

/-- The frame of a reply (R32, R141). -/
def Reply.frame (r : Reply) : Frame :=
  { station := r.station, an := r.an, epoch := r.epoch,
    body := match r.kind with
      | .disown => .disown
      | .closeConfirm => .closeConfirm
      | .openRefuse reason => .openRefuse reason }

/-- A frame of an association with given kind fields (R32). -/
def Assoc.frameOf (a : Assoc) (body : FrameBody) : Frame :=
  { station := a.key.station, an := a.key.an, epoch := a.epoch, body := body }

/-- The kind fields of a control frame, from the record at the begin (R32). -/
def Assoc.controlBody (a : Assoc) : ControlKind → FrameBody
  | .openAccept => .openAccept a.params.inboundLimit a.grant
  | .openRequest => .openRequest a.params.inboundLimit a.grant
  | .close => .close a.submitTag
  | .receipt => .receipt a.expected a.grant
  | .probe => .probe

/-- The DATA frame of an entry: its tag and the first `length` bytes of its buffer as they stand (R32, R137). -/
def State.dataBody (s : State) (e : SendEntry) : FrameBody :=
  .data e.tag (Memory.readBytes s.pool.memory (Memory.cell e.buffer 0) e.length)

/-! ### The begin (R148) -/

/-- The record after a control frame begins: the kind leaves pending control; the limit is advertised, RECEIPT owed and the
receipt timer stopped as the rule of the kind says (R44, R94, R148). -/
def Assoc.controlBegun (a : Assoc) (k : ControlKind) : Assoc :=
  let a1 := { a with pendingControl := a.pendingControl.drop k }
  match k with
  | .openAccept => ({ a1 with advertised := a.limit }).oweIf (a.expected ≠ 0) .receipt
  | .openRequest => { a1 with advertised := a.limit }
  | .receipt => { a1 with advertised := a.limit, receiptTimer := .stopped }
  | .close => a1
  | .probe => a1

/-- The record after a DATA frame begins (R70). -/
def Assoc.dataBegun (a : Assoc) : Assoc :=
  { a with
    nextToSend := a.nextToSend + 1
    sentMark := if tagDistance a.sendBase a.sentMark < tagDistance a.sendBase (a.nextToSend + 1) then a.nextToSend + 1
                else a.sentMark }

/-- The burst count after a reply or control frame (R145). -/
def bumpBurst (n : Nat) : Nat := if n < Config.burstLimit then n + 1 else n

/-- The line as it starts sending a frame (R139, R30). -/
def LineRecord.sends (r : LineRecord) (f : Frame) (source : TxSource) (buffer : Option BufferNo) : LineRecord :=
  { r with tx := .sending { kind := f.body.kind, source := source, buffer := buffer },
           txOut := .transmission (wireImage (sentBytes f)) }

/-- The effects of a begin (R148). -/
def State.beginChoice (s : State) (l : Line) : Choice → State
  | .reply r rest =>
    s.setLine l (({ s.line l with replies := rest, burst := bumpBurst (s.line l).burst }).sends r.frame .reply none)
  | .control i a k =>
    (s.setAssoc i (a.controlBegun k)).setLine l
      (({ s.line l with controlPtr := i, burst := bumpBurst (s.line l).burst }).sends (a.frameOf (a.controlBody k))
        (.association i (s.generation i)) none)
  | .data i a e =>
    (s.setAssoc i a.dataBegun).setLine l
      (({ s.line l with dataPtr := i, burst := 0 }).sends (a.frameOf (s.dataBody e)) (.association i (s.generation i))
        (some e.buffer))

/-- The line may take a begin if it has work (R140). -/
def State.mayBegin (s : State) (l : Line) : Bool :=
  (s.line l).tx = .idle && s.running && (s.line l).state = .active

/-- TRANSMISSION_BEGIN (R140, R148). Where the conditions of R140 do not hold the event does not occur (log 1). -/
def execTransmissionBegin (l : Line) (s : State) : Host.Outcome State Fault Refusal :=
  .next (if s.mayBegin l then (match s.choose l with | some c => s.beginChoice l c | none => s) else s)

/-! ### The end (R149, R150) -/

/-- The state timer's arming at the completion of a frame of an association (R44, R71, R80, R81). -/
def Assoc.frameDone (a : Assoc) (k : FrameKind) : Assoc :=
  match k with
  | .openRequest =>
    if a.state = .opening then { a with stateTimer := a.stateTimer.arm a.params.resendPeriod } else a
  | .close =>
    if a.state = .closing then { a with stateTimer := a.stateTimer.arm a.params.resendPeriod } else a
  | .data =>
    if a.state.sends && a.stateTimer = .stopped && a.timerNeeded then
      { a with stateTimer := a.stateTimer.arm a.params.resendPeriod }
    else a
  | .probe =>
    if a.state.sends && a.stateTimer = .stopped && a.timerNeeded then
      { a with stateTimer := a.stateTimer.arm a.params.resendPeriod }
    else a
  | .openAccept => a
  | .openRefuse => a
  | .receipt => a
  | .closeConfirm => a
  | .disown => a

/-- The effects on a record, applied only if the slot is not FREE and holds the generation of the begin (R120, R149). -/
def State.recordDone (s : State) (r : TxRecord) : State :=
  match r.source with
  | .reply => s
  | .association i g =>
    match s.assocAt i with
    | none => s
    | some a => if s.generation i = g then s.setAssoc i (a.frameDone r.kind) else s

/-- A RETIRING buffer of the frame joins the free-list tail; an OUTBOUND one stays in its entry (R129). -/
def Claim.retire (c : Claim) (buffer : Option BufferNo) : Claim :=
  match buffer with
  | none => c
  | some b =>
    match c.st.bufferStateAt b with
    | .retiring _ => c.returnBuffer b
    | _ => c

/-- The controller reaches STOPPED when a stop was asked and both transmitters are IDLE (R170). -/
def State.settleStop (s : State) : State :=
  if s.controller = .stopping && s.bothIdle then { s with controller := .stopped } else s

/-- The end of a frame, by completion or cut: the completion effects in one claim, the transmitter IDLE with `out` on its
output, then STOPPED if that was the last frame of a stop (R149, R150, R170). -/
def State.endFrame (s : State) (l : Line) (out : TxOutput) : State :=
  match (s.line l).tx with
  | .idle => s
  | .sending r =>
    let c := ((Claim.begin (s.recordDone r)).retire r.buffer).update fun t =>
      t.setLine l { t.line l with tx := .idle, txOut := out }
    c.finish.settleStop

/-- TRANSMISSION_COMPLETION (R149). An IDLE transmitter has nothing to complete (log 1). -/
def execTransmissionCompletion (l : Line) (s : State) : Host.Outcome State Fault Refusal :=
  .next (s.endFrame l .idleFill)

/-- The cut of the frame on the wire: the abort pattern in place of its bytes, then the completion effects (R30, R150). -/
def State.cutFrame (s : State) (l : Line) : State := s.endFrame l .abortPattern

/-- TRANSMISSION_CUT (R150): the cut where the transmitter takes the framer's report before the line state logic takes the
carrier loss or the disable. On an IDLE transmitter nothing is cut (log 5). -/
def execTransmissionCut (l : Line) (s : State) : Host.Outcome State Fault Refusal :=
  .next (s.cutFrame l)

end Sys2Proof.Machine
end

