-- ==== Sys2Proof/Machine/Control.lean ====
section
/-! DEFINITION. Device reset (R191), carrier changes (R163, R164), enabling and disabling a line (R162, R166), and the controller's
START, STOP and CLEAR (R169 to R172). -/

namespace Sys2Proof.Machine

/-! ### Device reset -/

/-- Every block at its reset values, with the carrier levels that the inputs have (R161) and the queue of commands kept. -/
def State.deviceReset (s : State) (asserted : Bool) : State :=
  { State.reset with
    resetAsserted := asserted
    lineA := .reset s.lineA.carrier
    lineB := .reset s.lineB.carrier
    pending := s.pending }

/-- DEVICE_RESET (R191): the reset values hold from the assertion on, and at the release the phase starts (log 6). An input
that is not asserted has no release (log 1). -/
def execDeviceReset (edge : ResetEdge) (s : State) : Host.Outcome State Fault Refusal :=
  .next (match edge with
    | .assertion => s.deviceReset true
    | .release => if s.resetAsserted then s.deviceReset false else s
    | .pulse => s.deviceReset false)

/-! ### Carrier -/

/-- The line state logic's part of a carrier loss on an ACTIVE line (R163): SUSPENDED, the grace timer armed, a frame being
received discarded. -/
def LineRecord.suspend (r : LineRecord) : LineRecord :=
  ({ r with carrier := false, state := .suspended, graceTimer := r.graceTimer.arm r.grace }).dropReception

/-- CARRIER_LOSS (R163): the frame being sent is cut in the same command (R82: "completion effects follow at once", log 5). -/
def execCarrierLoss (l : Line) (s : State) : Host.Outcome State Fault Refusal :=
  .next (if (s.line l).state = .active then
      ((s.setLine l (s.line l).suspend).raiseLine l .suspended).cutFrame l
    else s.setLine l { s.line l with carrier := false })

/-- A line that becomes ACTIVE at carrier return (R164). -/
def LineRecord.resume (r : LineRecord) : LineRecord :=
  { r with carrier := true, state := .active, graceTimer := .stopped, rx := .idle }

/-- CARRIER_RETURN (R164). -/
def execCarrierReturn (l : Line) (s : State) : Host.Outcome State Fault Refusal :=
  .next (match (s.line l).state with
    | .suspended => (s.setLine l (s.line l).resume).raiseLine l .restored
    | .down => (s.setLine l (s.line l).resume).raiseLine l .restored
    | .disabled => s.setLine l { s.line l with carrier := true }
    | .active => s.setLine l { s.line l with carrier := true })

/-! ### Enable and disable -/

/-- Enabling a line (R162): ACTIVE or DOWN by the carrier level; no effect unless DISABLED. -/
def State.enableLine (s : State) (l : Line) : State :=
  if (s.line l).state = .disabled then
    s.setLine l { s.line l with state := if (s.line l).carrier then .active else .down, rx := .idle }
  else s

/-- Disabling a line (R166): the ends in one claim, then the cut of a frame being sent; no effect in DISABLED. The cut taken
first is the command TRANSMISSION_CUT before this one (log 5). -/
def State.disableLine (s : State) (l : Line) : State :=
  if (s.line l).state = .disabled then s
  else
    (((s.setLine l (s.line l).dropReception).loseLine l .disabled .lineDisabled).finish).cutFrame l

/-! ### Controller -/

/-- A request with START alone (R169). -/
def State.startController (s : State) : State := { s with controller := .running }

/-- A request with STOP alone (R170). -/
def State.stopController (s : State) : State :=
  if s.running then ({ s with controller := .stopping }).settleStop else s

/-- A line after CLEAR (R172): reasons and replies emptied, pointers 63, burst count 0, transmitter IDLE. -/
def LineRecord.cleared (r : LineRecord) : LineRecord :=
  { r with reasons := .empty, replies := [], tx := .idle, controlPtr := 63, dataPtr := 63, burst := 0 }

/-- The pool after CLEAR (R138): the host floor, the window select and the buffer bytes are kept. -/
def Pool.cleared (p : Pool) : Pool :=
  { p with bufferState := Vector.replicate 128 .free, freeList := allBuffers, reserved := 0, refreshPtr := 63 }

/-- The attention unit after CLEAR (R172, R182, R185): the settings are kept. -/
def Attention.cleared (t : Attention) : Attention :=
  { t with list := [], holding := none, holdoffTimer := .stopped, indicator := false }

/-- A CLEAR that is taken (R172). -/
def State.clearAll (s : State) : State :=
  { s with
    table := mapVec (fun r : SlotRecord => { r with assoc := none }) s.table
    addressMap := []
    listen := mapVec (fun e : ListenEntry => { e with admitted := 0 }) s.listen
    pool := s.pool.cleared
    lineA := s.lineA.cleared
    lineB := s.lineB.cleared
    attention := s.attention.cleared }

/-- A CLEAR request (R171). -/
def State.requestClear (s : State) (withStart withStop : Bool) : State :=
  if !withStart && !withStop && s.controller = .stopped && !s.busy then s.clearAll
  else { s with flags := { s.flags with clearRefused := true } }

/-- A write of the controller control register (R169 to R171). -/
def State.controlRequest (s : State) (start stop clear : Bool) : State :=
  if clear then s.requestClear start stop
  else if start && stop then s
  else if start then s.startController
  else if stop then s.stopController
  else s

end Sys2Proof.Machine
end

