-- ==== Sys2Proof/Machine/Window.lean ====
section
/-! DEFINITION. The register window: the register map (R188), reads and writes by byte lanes (R187), the attention port (R182,
R190), the buffer window (R136), and the commands that are host accesses. -/

namespace Sys2Proof.Machine

/-! ### The register map (R188) -/

/-- The registers of the window. -/
inductive Reg where
  | control
  | controllerStatus
  | faultFlags
  | tickInterval
  | hostFloor
  | poolStatus
  | command
  | mailboxStatus
  | param (k : Fin 6)
  | result (k : Fin 4)
  | attentionPort
  | attentionStatus
  | notification
  | windowSelect
  | window (k : Fin 60)
  | lineControl (l : Line)
  | lineStatus (l : Line)
  | lineGrace (l : Line)
  | tally (l : Line) (k : TallyKind)
  | tallyClear (l : Line)
  deriving DecidableEq, Repr

/-- The register at a word of a line's block, whose base is word 0 (R188). -/
def lineReg (l : Line) (k : Nat) : Option Reg :=
  match k with
  | 0 => some (.lineControl l)
  | 1 => some (.lineStatus l)
  | 2 => some (.lineGrace l)
  | 4 => some (.tally l .check)
  | 5 => some (.tally l .foreign)
  | 6 => some (.tally l .malformed)
  | 7 => some (.tally l .idle)
  | 8 => some (.tally l .replyDrop)
  | 9 => some (.tallyClear l)
  | _ => none

/-- The register at a word of the window (its offset is four times the word); none where the map has none. -/
def regAt (word : BitVec 10) : Option Reg :=
  let n := word.toNat
  if h : 12 ≤ n ∧ n < 18 then some (.param ⟨n - 12, by omega⟩)
  else if h : 20 ≤ n ∧ n < 24 then some (.result ⟨n - 20, by omega⟩)
  else if h : 64 ≤ n ∧ n < 124 then some (.window ⟨n - 64, by omega⟩)
  else if 128 ≤ n ∧ n < 138 then lineReg .a (n - 128)
  else if 160 ≤ n ∧ n < 170 then lineReg .b (n - 160)
  else if n = 0 then some .control
  else if n = 1 then some .controllerStatus
  else if n = 2 then some .faultFlags
  else if n = 3 then some .tickInterval
  else if n = 4 then some .hostFloor
  else if n = 5 then some .poolStatus
  else if n = 8 then some .command
  else if n = 9 then some .mailboxStatus
  else if n = 24 then some .attentionPort
  else if n = 25 then some .attentionStatus
  else if n = 26 then some .notification
  else if n = 32 then some .windowSelect
  else none

/-! ### Reads -/

/-- The controller state field (R188). -/
def controllerField : ControllerState → Nat
  | .stopped => 0
  | .running => 1
  | .stopping => 2

/-- The line state field (R188). -/
def lineStateField : LineState → Nat
  | .disabled => 0
  | .active => 1
  | .suspended => 2
  | .down => 3

/-- A tally by its name (R35). -/
def Tallies.get (t : Tallies) : TallyKind → Nat
  | .check => t.check
  | .foreign => t.foreign
  | .malformed => t.malformed
  | .idle => t.idle
  | .replyDrop => t.replyDrop

/-- The line status word (R188). -/
def LineRecord.statusWord (r : LineRecord) : Word :=
  place 0 2 (lineStateField r.state) ||| placeBit 4 r.carrier ||| placeBit 5 (r.tx ≠ .idle)
    ||| place 8 4 r.replies.length ||| place 16 6 r.controlPtr.val ||| place 24 6 r.dataPtr.val

/-- The word that a register reads as, reads of the attention port and of the buffer window apart; a write-only register reads
as 0 (R187, R188). The attention port is read as its holding register (R190). -/
def State.readReg (s : State) : Reg → Word
  | .control => 0
  | .controllerStatus => place 0 2 (controllerField s.controller)
  | .faultFlags => placeBit 0 s.flags.overrun ||| placeBit 1 s.flags.windowFault ||| placeBit 2 s.flags.clearRefused
  | .tickInterval => place 0 12 s.timebase.interval
  | .hostFloor => place 0 8 s.pool.hostFloor
  | .poolStatus => place 0 8 s.pool.freeList.length ||| place 8 8 s.pool.reserved ||| place 16 6 s.pool.refreshPtr.val
  | .command => 0
  | .mailboxStatus => placeBit 0 s.busy ||| place 8 8 (completionField s.mailbox.completion)
  | .param k => s.mailbox.params[k]
  | .result k => s.mailbox.results[k]
  | .attentionPort => noticeWord s.attention.holding
  | .attentionStatus => place 0 7 s.attention.list.length ||| placeBit 8 s.attention.indicator
  | .notification =>
    placeBit 0 s.attention.enable ||| place 8 8 s.attention.threshold ||| place 16 8 s.attention.holdoff
  | .windowSelect => place 0 8 (match s.pool.select with | some b => b.val | none => 255)
  | .window _ => 0
  | .lineControl l => placeBit 0 ((s.line l).state ≠ .disabled)
  | .lineStatus l => (s.line l).statusWord
  | .lineGrace l => place 0 8 (s.line l).grace
  | .tally l k => place 0 16 ((s.line l).tallies.get k)
  | .tallyClear _ => 0

/-! ### The attention port (R182) -/

/-- The notice of a source, with its reason set and a slot's generation as they stand. -/
def State.noticeOf (s : State) : Source → Notice
  | .slot i => .slot i (s.generation i) ((s.assocAt i).elim .empty (·.reasons))
  | .line l => .line l (s.line l).reasons

/-- The reason set of a source emptied. -/
def State.emptyReasons (s : State) : Source → State
  | .slot i =>
    match s.assocAt i with
    | none => s
    | some a => s.setAssoc i { a with reasons := .empty }
  | .line l => s.setLine l { s.line l with reasons := .empty }

/-- The take of a notice: the head source leaves the list and its reason set is emptied; the holding register is overwritten,
with none where the list is empty (R182). -/
def State.takeNotice (s : State) : State :=
  match s.attention.list with
  | [] => s.setAttention { s.attention with holding := none }
  | src :: rest =>
    let t := s.emptyReasons src
    t.setAttention { t.attention.shorten rest with holding := some (s.noticeOf src) }

/-! ### The buffer window (R136) -/

/-- The selected buffer, if its bytes are the host's to use. -/
def State.windowBuffer (s : State) : Option BufferNo :=
  match s.pool.select with
  | none => none
  | some b => if s.bufferStateAt b = .host then some b else none

/-- A refused buffer-window access (R136, R180). -/
def State.windowFault (s : State) : State := { s with flags := { s.flags with windowFault := true } }

/-- A read of a word of the buffer window: the selected bytes, or 0 with WINDOW_FAULT. An access to no byte does nothing. -/
def State.readWindow (s : State) (k : Fin 60) (lanes : BitVec 4) : Word × State :=
  match s.windowBuffer with
  | some b =>
    (place 0 8 (s.bufferByte b (4 * k.val)).toNat ||| place 8 8 (s.bufferByte b (4 * k.val + 1)).toNat
       ||| place 16 8 (s.bufferByte b (4 * k.val + 2)).toNat ||| place 24 8 (s.bufferByte b (4 * k.val + 3)).toNat, s)
  | none => (0, if lanes = 0 then s else s.windowFault)

/-- One byte of a buffer written if its lane is selected. -/
def writeLane (m : List Host.Cell) (b : BufferNo) (k : Nat) (lanes : BitVec 4) (data : Word) (lane : Nat) : List Host.Cell :=
  if lanes.getLsbD lane then Memory.write m (Memory.cell b (4 * k + lane)) (wordByte data lane) else m

/-- The four lanes of a write to word `k` of a buffer. -/
def writeLanes (m : List Host.Cell) (b : BufferNo) (k : Nat) (lanes : BitVec 4) (data : Word) : List Host.Cell :=
  writeLane (writeLane (writeLane (writeLane m b k lanes data 0) b k lanes data 1) b k lanes data 2) b k lanes data 3

/-- A write of a word of the buffer window: the selected bytes, or ignored with WINDOW_FAULT. -/
def State.writeWindow (s : State) (k : Fin 60) (lanes : BitVec 4) (data : Word) : State :=
  match s.windowBuffer with
  | some b => s.setPool { s.pool with memory := writeLanes s.pool.memory b k.val lanes data }
  | none => if lanes = 0 then s else s.windowFault

/-- A host read (R187). A read that includes the first byte of the attention port takes a notice and returns it (R190). While
the reset input is asserted reads return 0 and take nothing (R191). -/
def State.hostRead (s : State) (word : BitVec 10) (lanes : BitVec 4) : Word × State :=
  if s.resetAsserted then (0, s)
  else
    match regAt word with
    | none => (0, s)
    | some .attentionPort =>
      let t := if lanes.getLsbD 0 then s.takeNotice else s
      (t.readReg .attentionPort &&& laneMask lanes, t)
    | some (.window k) => ((s.readWindow k lanes).1 &&& laneMask lanes, (s.readWindow k lanes).2)
    | some r => (s.readReg r &&& laneMask lanes, s)

/-- A host read with its data on the bus. -/
def State.busRead (s : State) (word : BitVec 10) (lanes : BitVec 4) : State :=
  { (s.hostRead word lanes).2 with dataOut := (s.hostRead word lanes).1 }

/-! ### Writes -/

/-- A write of the command register (R174): taken in IDLE, an overrun in BUSY. -/
def State.takeCommand (s : State) (code : Byte) : State :=
  if s.busy then { s with flags := { s.flags with overrun := true } }
  else
    { s with mailbox := { s.mailbox with latched := some { code := code, params := s.mailbox.params },
                                         results := noResults, completion := none } }

/-- A write of the fault flag register: a written 1 clears the flag (R180). -/
def State.clearFlags (s : State) (v : Word) : State :=
  { s with flags := { overrun := s.flags.overrun && !v.getLsbD 0, windowFault := s.flags.windowFault && !v.getLsbD 1,
                      clearRefused := s.flags.clearRefused && !v.getLsbD 2 } }

/-- A write of the tick interval (R153): a value above 4095 is ignored; any other restarts the phase. A tick that is being taken
timer by timer is over before the write (R159, log 3). -/
def State.writeInterval (s : State) (v : Nat) : State :=
  if Config.intervalMax < v then s
  else { s.finishTick with timebase := { interval := v, phase := 0, taken := none } }

/-- A write of the host floor (R131): a value above 32 is taken as 32, and a refresh pass runs against the new value. -/
def State.writeFloor (s : State) (v : Nat) : State :=
  (s.setPool { s.pool with hostFloor := min v Config.hostFloorMax }).refreshPass

/-- A write of the notification settings (R184): a threshold outside 1..66 is ignored. -/
def State.writeNotification (s : State) (v : Word) : State :=
  s.setAttention { s.attention with
    enable := v.getLsbD 0
    threshold := if within 1 66 (fieldNat v 8 8) then fieldNat v 8 8 else s.attention.threshold
    holdoff := fieldNat v 16 8 }

/-- A write of the line grace (R167): 0 is ignored. -/
def State.writeGrace (s : State) (l : Line) (v : Nat) : State :=
  if v = 0 then s else s.setLine l { s.line l with grace := v }

/-- A write of a line control register (R162, R166). -/
def State.writeLineControl (s : State) (l : Line) (enable : Bool) : State :=
  if enable then s.enableLine l else s.disableLine l

/-- A write of a tally-clear register (R35). -/
def State.clearTallies (s : State) (l : Line) : State := s.setLine l { s.line l with tallies := .zero }

/-- A host write to a register. A write of part of a register changes only the bytes written; for a request register the bytes
it does not write are taken as 0; a read-only register ignores it (R187, R188). A write of the host floor that leaves out the
byte of the floor field writes reserved bits only and is ignored (log 11). -/
def State.writeReg (s : State) (lanes : BitVec 4) (data : Word) : Reg → State
  | .control =>
    let v := mergeLanes 0 data lanes
    s.controlRequest (v.getLsbD 0) (v.getLsbD 1) (v.getLsbD 2)
  | .controllerStatus => s
  | .faultFlags => s.clearFlags (mergeLanes 0 data lanes)
  | .tickInterval => s.writeInterval (mergeLanes (s.readReg .tickInterval) data lanes).toNat
  | .hostFloor => if lanes.getLsbD 0 then s.writeFloor (fieldNat data 0 8) else s
  | .poolStatus => s
  | .command => s.takeCommand (wordByte (mergeLanes 0 data lanes) 0)
  | .mailboxStatus => s
  | .param k =>
    { s with mailbox := { s.mailbox with params := s.mailbox.params.set k (mergeLanes s.mailbox.params[k] data lanes) } }
  | .result _ => s
  | .attentionPort => s
  | .attentionStatus => s
  | .notification => s.writeNotification (mergeLanes (s.readReg .notification) data lanes)
  | .windowSelect =>
    s.setPool { s.pool with select := bufferOfField (fieldNat (mergeLanes (s.readReg .windowSelect) data lanes) 0 8) }
  | .window k => s.writeWindow k lanes data
  | .lineControl l => s.writeLineControl l ((mergeLanes 0 data lanes).getLsbD 0)
  | .lineStatus _ => s
  | .lineGrace l => s.writeGrace l (fieldNat (mergeLanes (s.readReg (.lineGrace l)) data lanes) 0 8)
  | .tally _ _ => s
  | .tallyClear l => s.clearTallies l

/-- A host write (R187). A write to no byte lane is no write; one to an offset that holds no register, or while the reset
input is asserted, is ignored (R191). -/
def State.hostWrite (s : State) (word : BitVec 10) (lanes : BitVec 4) (data : Word) : State :=
  if s.resetAsserted || lanes = 0 then s
  else
    match regAt word with
    | none => s
    | some r => s.writeReg lanes data r

/-! ### The commands that are host accesses -/

/-- All four byte lanes: a 32-bit access. -/
def allLanes : BitVec 4 := 0b1111

/-- The word of a line's control register. -/
def lineControlWord : Line → BitVec 10
  | .a => 128
  | .b => 160

/-- The word of a line's tally-clear register. -/
def tallyClearWord : Line → BitVec 10
  | .a => 137
  | .b => 169

/-- The word of the buffer window with a word index in it. -/
def windowWordAddr (word : BitVec 6) : BitVec 10 := 64 + word.setWidth 10

/-- START (R169): a write of the controller control register with START alone. -/
def execStart (s : State) : Host.Outcome State Fault Refusal := .next (s.hostWrite 0 allLanes 0x1)

/-- STOP (R170): a write of the controller control register with STOP alone. -/
def execStop (s : State) : Host.Outcome State Fault Refusal := .next (s.hostWrite 0 allLanes 0x2)

/-- CLEAR (R171, R172): a write of the controller control register that carries CLEAR. -/
def execClear (withStart withStop : Bool) (s : State) : Host.Outcome State Fault Refusal :=
  .next (s.hostWrite 0 allLanes (placeBit 0 withStart ||| placeBit 1 withStop ||| 0x4))

/-- LINE_ENABLE (R162): a write of 1 to the enable field of a line control register. -/
def execLineEnable (l : Line) (s : State) : Host.Outcome State Fault Refusal :=
  .next (s.hostWrite (lineControlWord l) allLanes 0x1)

/-- LINE_DISABLE (R166): a write of 0 to the enable field of a line control register. -/
def execLineDisable (l : Line) (s : State) : Host.Outcome State Fault Refusal :=
  .next (s.hostWrite (lineControlWord l) allLanes 0x0)

/-- FAULT_FLAG_CLEAR (R180): a 32-bit write of the fault flag register. -/
def execFaultFlagClear (value : Word) (s : State) : Host.Outcome State Fault Refusal :=
  .next (s.hostWrite 2 allLanes value)

/-- TALLY_CLEAR (R35): a write of any value to a line's tally-clear register. -/
def execTallyClear (l : Line) (value : Word) (s : State) : Host.Outcome State Fault Refusal :=
  .next (s.hostWrite (tallyClearWord l) allLanes value)

/-- TICK_INTERVAL_WRITE (R153): a 32-bit write of the tick interval register. -/
def execTickIntervalWrite (value : Word) (s : State) : Host.Outcome State Fault Refusal :=
  .next (s.hostWrite 3 allLanes value)

/-- HOST_FLOOR_WRITE (R131): a 32-bit write of the host floor register. -/
def execHostFloorWrite (value : Word) (s : State) : Host.Outcome State Fault Refusal :=
  .next (s.hostWrite 4 allLanes value)

/-- NOTIFICATION_SETTINGS_WRITE (R184): a 32-bit write of the notification settings register. -/
def execNotificationSettingsWrite (value : Word) (s : State) : Host.Outcome State Fault Refusal :=
  .next (s.hostWrite 26 allLanes value)

/-- ATTENTION_PORT_READ (R182, R190): a read of bytes of the attention port. -/
def execAttentionPortRead (lanes : BitVec 4) (s : State) : Host.Outcome State Fault Refusal :=
  .next (s.busRead 24 lanes)

/-- BUFFER_WINDOW_READ (R136): a read of bytes of a word of the buffer window. -/
def execBufferWindowRead (word : BitVec 6) (lanes : BitVec 4) (s : State) : Host.Outcome State Fault Refusal :=
  .next (s.busRead (windowWordAddr word) lanes)

/-- BUFFER_WINDOW_WRITE (R136): a write of bytes of a word of the buffer window. -/
def execBufferWindowWrite (word : BitVec 6) (lanes : BitVec 4) (data : Word) (s : State) :
    Host.Outcome State Fault Refusal :=
  .next (s.hostWrite (windowWordAddr word) lanes data)

/-- REGISTER_WRITE (R187, R188): a write of bytes of any word of the register window. -/
def execRegisterWrite (word : BitVec 10) (lanes : BitVec 4) (data : Word) (s : State) :
    Host.Outcome State Fault Refusal :=
  .next (s.hostWrite word lanes data)

end Sys2Proof.Machine
end

