-- ==== Sys2Proof/Machine/Dispatch.lean ====
section
/-! DEFINITION. One arm per command. -/

namespace Sys2Proof.Machine

def exec (i : Instr) (s : State) : Host.Outcome State Fault Refusal :=
  match i with
  | .deviceReset edge => Sys2Proof.Machine.execDeviceReset edge s
  | .carrierLoss l => Sys2Proof.Machine.execCarrierLoss l s
  | .carrierReturn l => Sys2Proof.Machine.execCarrierReturn l s
  | .frameArrival l coded => Sys2Proof.Machine.execFrameArrival l coded s
  | .receiveDispatch l => Sys2Proof.Machine.execReceiveDispatch l s
  | .transmissionBegin l => Sys2Proof.Machine.execTransmissionBegin l s
  | .transmissionCompletion l => Sys2Proof.Machine.execTransmissionCompletion l s
  | .transmissionCut l => Sys2Proof.Machine.execTransmissionCut l s
  | .tick which => Sys2Proof.Machine.execTick s which
  | .openRetryExpiry slot => Sys2Proof.Machine.execOpenRetryExpiry slot s
  | .offerExpiry slot => Sys2Proof.Machine.execOfferExpiry slot s
  | .resendExpiry slot => Sys2Proof.Machine.execResendExpiry slot s
  | .closeTimerExpiry slot => Sys2Proof.Machine.execCloseTimerExpiry slot s
  | .receiptTimerExpiry slot => Sys2Proof.Machine.execReceiptTimerExpiry slot s
  | .graceExpiry l => Sys2Proof.Machine.execGraceExpiry l s
  | .holdoffExpiry => Sys2Proof.Machine.execHoldoffExpiry s
  | .cmdOpen => Sys2Proof.Machine.execCmdOpen s
  | .cmdAccept => Sys2Proof.Machine.execCmdAccept s
  | .cmdRefuse => Sys2Proof.Machine.execCmdRefuse s
  | .cmdSubmit => Sys2Proof.Machine.execCmdSubmit s
  | .cmdTake => Sys2Proof.Machine.execCmdTake s
  | .cmdHold => Sys2Proof.Machine.execCmdHold s
  | .cmdResume => Sys2Proof.Machine.execCmdResume s
  | .cmdClose => Sys2Proof.Machine.execCmdClose s
  | .cmdAbort => Sys2Proof.Machine.execCmdAbort s
  | .cmdAbortGroup => Sys2Proof.Machine.execCmdAbortGroup s
  | .cmdRelease => Sys2Proof.Machine.execCmdRelease s
  | .cmdAllocate => Sys2Proof.Machine.execCmdAllocate s
  | .cmdFree => Sys2Proof.Machine.execCmdFree s
  | .cmdQuery => Sys2Proof.Machine.execCmdQuery s
  | .cmdSetListen => Sys2Proof.Machine.execCmdSetListen s
  | .cmdGetListen => Sys2Proof.Machine.execCmdGetListen s
  | .cmdBad => Sys2Proof.Machine.execCmdBad s
  | .start => Sys2Proof.Machine.execStart s
  | .stop => Sys2Proof.Machine.execStop s
  | .clear withStart withStop => Sys2Proof.Machine.execClear withStart withStop s
  | .lineEnable l => Sys2Proof.Machine.execLineEnable l s
  | .lineDisable l => Sys2Proof.Machine.execLineDisable l s
  | .faultFlagClear value => Sys2Proof.Machine.execFaultFlagClear value s
  | .tallyClear l value => Sys2Proof.Machine.execTallyClear l value s
  | .tickIntervalWrite value => Sys2Proof.Machine.execTickIntervalWrite value s
  | .hostFloorWrite value => Sys2Proof.Machine.execHostFloorWrite value s
  | .notificationSettingsWrite value => Sys2Proof.Machine.execNotificationSettingsWrite value s
  | .attentionPortRead lanes => Sys2Proof.Machine.execAttentionPortRead lanes s
  | .bufferWindowRead word lanes => Sys2Proof.Machine.execBufferWindowRead word lanes s
  | .bufferWindowWrite word lanes data => Sys2Proof.Machine.execBufferWindowWrite word lanes data s
  | .registerWrite word lanes data => Sys2Proof.Machine.execRegisterWrite word lanes data s
  | .startPattern l bits => Sys2Proof.Machine.execStartPattern l bits s
  | .frameAborted l coded cause => Sys2Proof.Machine.execFrameAborted l coded cause s

end Sys2Proof.Machine
end

