-- ==== Sys2Proof/WellFormed.lean ====
section
/-! DEFINITION. The commands that the outside world can put: bus accesses of 8, 16 or 32 bits at an aligned address (R187), and
received bytes that hold no pattern of their own beside the one the command names (R26). `exec` is total on the others too. -/

namespace Sys2Proof

/-- The byte lanes of an 8-, 16- or 32-bit access at an aligned address (R187). -/
def lanesAligned (lanes : BitVec 4) : Bool :=
  lanes = 0b0001 || lanes = 0b0010 || lanes = 0b0100 || lanes = 0b1000 || lanes = 0b0011 || lanes = 0b1100 || lanes = 0b1111

/-- The coded bytes hold no mark byte but in escaped marks (R26). -/
def codedClean : List Byte → Bool
  | [] => true
  | x :: rest =>
    if x = Config.mark then
      match rest with
      | [] => false
      | y :: rest' => decide (y = Config.mark) && codedClean rest'
    else codedClean rest

/-- A second byte that makes a coding violation inside a frame (R26): none of the four patterns'. -/
def violates (second : Byte) : Bool :=
  second ≠ Config.startCode && second ≠ Config.endCode && second ≠ Config.abortCode && second ≠ Config.mark

/-- The words of the buffer window: bytes 0 to 239, so words 0 to 59 (R188). -/
def windowWord (word : BitVec 6) : Bool := word.toNat < 60

/-- The commands the outside world can put. -/
def Instr.wellFormed : Instr → Bool
  | .frameArrival _ coded => codedClean coded
  | .frameAborted _ coded cause =>
    codedClean coded && (match cause with | .violation y => violates y | _ => true)
  | .attentionPortRead lanes => lanesAligned lanes
  | .bufferWindowRead word lanes => windowWord word && lanesAligned lanes
  | .bufferWindowWrite word lanes _ => windowWord word && lanesAligned lanes
  | .registerWrite _ lanes _ => lanesAligned lanes
  | .deviceReset _ | .carrierLoss _ | .carrierReturn _ | .receiveDispatch _ | .transmissionBegin _
  | .transmissionCompletion _ | .transmissionCut _ | .tick _ | .openRetryExpiry _ | .offerExpiry _ | .resendExpiry _
  | .closeTimerExpiry _ | .receiptTimerExpiry _ | .graceExpiry _ | .holdoffExpiry | .cmdOpen | .cmdAccept | .cmdRefuse
  | .cmdSubmit | .cmdTake | .cmdHold | .cmdResume | .cmdClose | .cmdAbort | .cmdAbortGroup | .cmdRelease | .cmdAllocate
  | .cmdFree | .cmdQuery | .cmdSetListen | .cmdGetListen | .cmdBad | .start | .stop | .clear _ _ | .lineEnable _
  | .lineDisable _ | .faultFlagClear _ | .tallyClear _ _ | .tickIntervalWrite _ | .hostFloorWrite _
  | .notificationSettingsWrite _ | .startPattern _ _ => true

end Sys2Proof
end

