-- ==== Sys2Proof/Safety.lean ====
section
/-! DEFINITION. What the statements speak of: hypotheses on a state that several statements share, the classes of commands, and
the laws of the spec that every step keeps. -/

namespace Sys2Proof.Machine

/-! ### Hypotheses on a state -/

/-- The mailbox is BUSY with a command of this code and these latched parameters (R173, R174). -/
def State.latches (s : State) (code : Byte) (p : Vector Word 6) : Prop :=
  s.mailbox.latched = some { code := code, params := p }

/-- A handle word is current and names the association `a` in slot `i` (R5, R189). -/
def State.names (s : State) (h : Word) (i : Slot) (a : Assoc) : Prop :=
  fieldNat h 0 8 = i.val ∧ h.extractLsb' 16 16 = s.generation i ∧ s.assocAt i = some a

/-- A handle word that is not current (R5). -/
def State.stale (s : State) (h : Word) : Prop := ∀ i a, ¬ s.names h i a

/-- Slot `i` is the lowest-numbered FREE slot (R7). -/
def State.lowestFree (s : State) (i : Slot) : Prop := s.assocAt i = none ∧ ∀ j, j < i → s.assocAt j ≠ none

/-- The oldest delivered frame of the line passes the tests of R33 and is the frame `f`. -/
def State.frameReady (s : State) (l : Line) (f : Frame) : Prop :=
  ∃ d rest, (s.line l).arrived = d :: rest ∧ (s.line l).state = .active ∧ s.controller = .running
    ∧ d.bytes.head? = some 0 ∧ parseFrame d.bytes = some f

/-- That frame, of a live association's key and epoch (R39). -/
def State.frameFor (s : State) (l : Line) (f : Frame) (i : Slot) (a : Assoc) : Prop :=
  s.frameReady l f ∧ s.lookup { line := l, station := f.station, an := f.an } = some i ∧ s.assocAt i = some a
    ∧ a.epoch = f.epoch ∧ a.state.isLive = true

/-- The line may begin a transmission if it has work (R140). -/
def State.lineFree (s : State) (l : Line) : Prop :=
  (s.line l).tx = .idle ∧ s.controller = .running ∧ (s.line l).state = .active

/-- Slot `i` holds the association `a` of line `l`, with control frames to send (R146). -/
def State.owesControl (s : State) (l : Line) (i : Slot) (a : Assoc) : Prop :=
  s.assocAt i = some a ∧ a.key.line = l ∧ a.pendingControl ≠ .empty

/-- Slot `i` holds the association `a` of line `l`, sendable by the six conditions of R69 (R147). -/
def State.owesData (s : State) (l : Line) (i : Slot) (a : Assoc) : Prop :=
  s.assocAt i = some a ∧ a.key.line = l ∧ (a.state = .opened ∨ a.state = .draining) ∧ a.nextToSend ≠ a.submitTag ∧
    tagDistance a.sendBase a.nextToSend < a.params.window ∧
    tagDistance a.sendBase a.nextToSend < tagDistance a.sendBase a.peerLimit ∧
    (s.line l).state = .active ∧ s.controller = .running

/-- Stalled: an unsent entry, nothing unreceipted, and next-to-send at the peer limit (R72). -/
abbrev Assoc.IsStalled (a : Assoc) : Prop :=
  a.nextToSend ≠ a.submitTag ∧ tagDistance a.sendBase a.nextToSend = 0 ∧ a.nextToSend = a.peerLimit

/-- The resend timer is needed: the unreceipted count is above 0, or the association is stalled (R72). -/
abbrev Assoc.NeedsTimer (a : Assoc) : Prop := 0 < tagDistance a.sendBase a.nextToSend ∨ a.IsStalled

/-- A live association of the line whose station agrees with the value in every bit position where the mask holds 0 (R117). -/
abbrev Assoc.OfGroup (a : Assoc) (l : Line) (value mask : Station) : Prop :=
  a.state.isLive = true ∧ a.key.line = l ∧
    ∀ k, k < 6 → mask.getLsbD k = false → a.key.station.getLsbD k = value.getLsbD k

/-- How late a slot's turn comes after a pointer: 0 for the slot after it, 63 for the slot of the pointer itself (R146, R147). -/
def turnAfter (p i : Slot) : Nat := (i - (p + 1)).val

/-- The fields of a frame are in the ranges of R31. -/
def Frame.inRange (f : Frame) : Prop :=
  1 ≤ f.station.toNat ∧ f.station.toNat ≤ 62 ∧ f.epoch ≠ 0 ∧
    match f.body with
    | .openRequest limit credit => 16 ≤ limit ∧ limit ≤ 240 ∧ credit ≤ 15
    | .openAccept limit credit => 16 ≤ limit ∧ limit ≤ 240 ∧ credit ≤ 15
    | .openRefuse _ => True
    | .data _ payload => 1 ≤ payload.length
    | .receipt _ credit => credit ≤ 15
    | .probe => True
    | .close _ => True
    | .closeConfirm => True
    | .disown => True

/-! ### Frames as the tables of the spec give them -/

/-- The wire value of a refuse reason (the table of R17). -/
def refuseByte : RefuseReason → Byte
  | .noListener => 1
  | .tableFull => 2
  | .admissionFull => 3
  | .refusedByHost => 4
  | .crossed => 5
  | .offerExpired => 6

/-- Kind and bytes of the frame that a reply goes out as (R31, R32). -/
def Reply.onWire (r : Reply) : FrameKind × List Byte :=
  match r.kind with
  | .disown => (.disown, [r.station.setWidth 8, 0, 0x3F, r.an.setWidth 8, r.epoch])
  | .closeConfirm => (.closeConfirm, [r.station.setWidth 8, 0, 0x32, r.an.setWidth 8, r.epoch])
  | .openRefuse reason =>
    (.openRefuse, [r.station.setWidth 8, 0, 0x13, r.an.setWidth 8, r.epoch, refuseByte reason])

/-- Kind and bytes of the control frame that an association goes out with (R31, R32). -/
def Assoc.onWire (a : Assoc) (k : ControlKind) : FrameKind × List Byte :=
  let frame (code : Byte) (fields : List Byte) : List Byte :=
    [a.key.station.setWidth 8, 0, code, a.key.an.setWidth 8, a.epoch] ++ fields
  match k with
  | .openAccept => (.openAccept, frame 0x12 [BitVec.ofNat 8 a.params.inboundLimit, BitVec.ofNat 8 a.grant])
  | .openRequest => (.openRequest, frame 0x11 [BitVec.ofNat 8 a.params.inboundLimit, BitVec.ofNat 8 a.grant])
  | .close => (.close, frame 0x31 [a.submitTag])
  | .receipt => (.receipt, frame 0x21 [a.expected, BitVec.ofNat 8 a.grant])
  | .probe => (.probe, frame 0x22 [])

/-- The record after the begin of a control frame (the table of R148, R94). -/
def Assoc.afterControl (a : Assoc) (k : ControlKind) : Assoc :=
  match k with
  | .openAccept =>
    { a with advertised := a.expected + BitVec.ofNat 8 a.grant,
             pendingControl := { a.pendingControl with
               openAccept := false, receipt := a.pendingControl.receipt || decide (a.expected ≠ 0) } }
  | .openRequest =>
    { a with advertised := a.expected + BitVec.ofNat 8 a.grant,
             pendingControl := { a.pendingControl with openRequest := false } }
  | .close => { a with pendingControl := { a.pendingControl with close := false } }
  | .receipt =>
    { a with advertised := a.expected + BitVec.ofNat 8 a.grant, receiptTimer := .stopped,
             pendingControl := { a.pendingControl with receipt := false } }
  | .probe => { a with pendingControl := { a.pendingControl with probe := false } }

/-- The kind of the association's turn: the first present of OPEN-ACCEPT, OPEN-REQUEST, CLOSE, RECEIPT, PROBE (R146). -/
def ControlSet.turnOf (c : ControlSet) : ControlKind → Prop
  | .openAccept => c.openAccept = true
  | .openRequest => c.openAccept = false ∧ c.openRequest = true
  | .close => c.openAccept = false ∧ c.openRequest = false ∧ c.close = true
  | .receipt => c.openAccept = false ∧ c.openRequest = false ∧ c.close = false ∧ c.receipt = true
  | .probe => c.openAccept = false ∧ c.openRequest = false ∧ c.close = false ∧ c.receipt = false ∧ c.probe = true

/-- The record of a frame's association at the end of the transmission (the table of R149). -/
def Assoc.afterFrame (a : Assoc) (k : FrameKind) : Assoc :=
  if (k = .openRequest ∧ a.state = .opening) ∨ (k = .close ∧ a.state = .closing) ∨
      ((k = .data ∨ k = .probe) ∧ a.state.sends = true ∧ a.stateTimer = .stopped ∧ a.NeedsTimer) then
    { a with stateTimer := .counting a.params.resendPeriod }
  else a

/-- A frame on the wire is of the association `a` that slot `i` still holds (R120, R139). -/
def State.sentFor (s : State) (r : TxRecord) (i : Slot) (a : Assoc) : Prop :=
  r.source = .association i (s.generation i) ∧ s.assocAt i = some a

/-- The bytes of the DATA frame of a send-queue entry (R31, R32, R137). -/
def State.dataOnWire (s : State) (a : Assoc) (e : SendEntry) : List Byte :=
  [a.key.station.setWidth 8, 0, 0x20, a.key.an.setWidth 8, a.epoch, e.tag]
    ++ (List.range e.length).map fun k => s.bufferByte e.buffer k

/-! ### Ticks -/

/-- A tick may be taken at the timer: the reset input is released (R191), the interval is not 0 (R153, R159), and the timer has not
taken the tick that is being taken timer by timer (R155, log 3). -/
def State.tickOpen (s : State) (x : TimerName) : Prop :=
  s.resetAsserted = false ∧ s.timebase.interval ≠ 0 ∧ ∀ xs, s.timebase.taken = some xs → x ∉ xs

/-- The state with the tick noted as taken at the timer; a tick that begins with it starts the phase again (R153, log 3). -/
def State.tickNoted (s : State) (x : TimerName) : State :=
  { s with timebase := { s.timebase with
      phase := if s.timebase.taken = none then 0 else s.timebase.phase
      taken := some (x :: s.timebase.taken.getD []) } }

/-- Association timers of the line count: the controller is RUNNING and the line ACTIVE (R156). -/
abbrev State.TimersCount (s : State) (l : Line) : Prop := s.controller = .running ∧ (s.line l).state = .active

/-- A tick that the timer may count or not does not take its last remaining tick (R155). -/
def Timer.survives (counts : Prop) (x : Timer) : Prop := counts → ∀ n, x = .counting n → 2 ≤ n

/-- A timer after a tick that it may count or not, and that is not its last (R155, R156). -/
def Timer.afterTick (counts : Prop) [Decidable counts] (x : Timer) : Timer :=
  match x with
  | .counting n => if counts then .counting (n - 1) else x
  | .stopped => x

/-- The state after the tick at one timer. -/
def State.afterTickAt (s : State) (x : TimerName) : State :=
  match exec (.tick (some x)) s with
  | .next t => t
  | .fault _ => s
  | .refused _ => s

/-! ### Numbers of the mailbox words -/

/-- The slot states and their numbers (R189); FREE is 0. -/
def stateNumber (st : AssocState) (n : Nat) : Prop :=
  (st = .opening ∧ n = 1) ∨ (st = .offered ∧ n = 2) ∨ (st = .opened ∧ n = 3) ∨ (st = .draining ∧ n = 4) ∨
    (st = .closing ∧ n = 5) ∨ ((∃ cause, st = .ended cause) ∧ n = 6)

/-- The end causes with the numbers of cause and detail (R17, R189). -/
def endNumbers : List (EndCause × Nat × Nat) :=
  [(.localClose, 1, 0), (.remoteClose, 2, 0), (.localAbort, 3, 0), (.refused .noListener, 4, 1), (.refused .tableFull, 4, 2),
   (.refused .admissionFull, 4, 3), (.refused .refusedByHost, 4, 4), (.refused .crossed, 4, 5),
   (.refused .offerExpired, 4, 6), (.refusedLocal, 5, 0), (.offerExpired, 6, 0), (.noResponse, 7, 0),
   (.protocol .creditExceeded, 8, 1), (.protocol .oversize, 8, 2), (.protocol .badReceipt, 8, 3),
   (.protocol .closeMismatch, 8, 4), (.disowned, 9, 0), (.remoteReset, 10, 0), (.lineDown, 11, 0), (.lineDisabled, 12, 0)]

/-- The completion codes and their numbers (R189). -/
def completionNumbers : List (Option Completion × Nat) :=
  [(some .ok, 0), (some .badCommand, 1), (some .stale, 2), (some .badParameter, 3), (some .state, 4), (some .line, 5),
   (some .tableFull, 6), (some .inUse, 7), (some .queueFull, 8), (some .notOwner, 9), (some .noBuffer, 10),
   (some .empty, 11), (none, 0xFF)]

/-! ### Partial writes -/

/-- `w` is `v` in the byte lanes written and `old` in the others (R187). -/
def merges (w old v : Word) (lanes : BitVec 4) : Prop :=
  ∀ j, j < 4 → w.extractLsb' (8 * j) 8 = if lanes.getLsbD j then v.extractLsb' (8 * j) 8 else old.extractLsb' (8 * j) 8

/-! ### A lost line -/

/-- What the loss of line `l` does to the part, the line's own record apart (R165, R166): its live associations end with `cause`
in slot order, those that had no reason join the attention list, and `tail` joins behind them; the other associations keep
everything but credit that a refresh pass may raise. -/
structure State.LineLost (s : State) (l : Line) (cause : EndCause) (tail : List Source) (t : State) : Prop where
  ended : ∀ i a, s.assocAt i = some a → a.key.line = l → a.state.isLive = true → t.assocAt i = some { a with
    state := .ended cause, grant := 0, sendQueue := [], abandoned := a.abandoned + a.sendQueue.length,
    pendingControl := .empty, stateTimer := .stopped, receiptTimer := .stopped,
    reasons := { a.reasons with ended := true } }
  dead : ∀ i a, s.assocAt i = some a → a.state.isLive = false → t.assocAt i = some a
  other : ∀ i a, s.assocAt i = some a → a.key.line ≠ l → ∃ g x,
    t.assocAt i = some { a with grant := g, pendingControl := { a.pendingControl with receipt := x } }
  slots : ∀ i, t.generation i = s.generation i ∧ (s.assocAt i = none → t.assocAt i = none)
  keys : ∀ e, e ∈ t.addressMap ↔ e ∈ s.addressMap ∧
    ∀ i a, s.assocAt i = some a → a.key.line = l → a.state.isLive = true → a.key ≠ e.key
  notices : t.attention.list = s.attention.list ++
    (allSlots.filter fun i => (s.assocAt i).elim false fun a =>
      decide (a.key.line = l) && a.state.isLive && decide (a.reasons = .empty)).map Source.slot ++ tail
  line : ∀ m, m ≠ l → t.line m = s.line m
  controller : t.controller = s.controller
  mailbox : t.mailbox = s.mailbox

/-! ### Classes of commands -/

/-- The code that names a mailbox command (R189). -/
def mailboxCode : Instr → Option Byte
  | .cmdOpen => some codeOpen
  | .cmdAccept => some codeAccept
  | .cmdRefuse => some codeRefuse
  | .cmdSubmit => some codeSubmit
  | .cmdTake => some codeTake
  | .cmdHold => some codeHold
  | .cmdResume => some codeResume
  | .cmdClose => some codeClose
  | .cmdAbort => some codeAbort
  | .cmdAbortGroup => some codeAbortGroup
  | .cmdRelease => some codeRelease
  | .cmdAllocate => some codeAllocate
  | .cmdFree => some codeFree
  | .cmdQuery => some codeQuery
  | .cmdSetListen => some codeSetListen
  | .cmdGetListen => some codeGetListen
  | .deviceReset _ | .carrierLoss _ | .carrierReturn _ | .frameArrival _ _ | .receiveDispatch _ | .transmissionBegin _
  | .transmissionCompletion _ | .transmissionCut _ | .tick _ | .openRetryExpiry _ | .offerExpiry _ | .resendExpiry _
  | .closeTimerExpiry _ | .receiptTimerExpiry _ | .graceExpiry _ | .holdoffExpiry | .cmdBad | .start | .stop | .clear _ _
  | .lineEnable _ | .lineDisable _ | .faultFlagClear _ | .tallyClear _ _ | .tickIntervalWrite _ | .hostFloorWrite _
  | .notificationSettingsWrite _ | .attentionPortRead _ | .bufferWindowRead _ _ | .bufferWindowWrite _ _ _
  | .registerWrite _ _ _ | .startPattern _ _ | .frameAborted _ _ _ => none

/-- The commands that take a handle (R5). -/
def handleCommands : List Instr :=
  [.cmdAccept, .cmdRefuse, .cmdSubmit, .cmdTake, .cmdHold, .cmdResume, .cmdClose, .cmdAbort, .cmdRelease]

/-- A command that takes a handle is not taken in a state: the tables of sections 3.6 and 6.1, and R101. -/
def refusedIn : Instr → AssocState → Bool
  | .cmdAccept, st => st ≠ .offered
  | .cmdRefuse, st => st ≠ .offered
  | .cmdSubmit, st => st ≠ .opened
  | .cmdTake, st => st = .opening || st = .offered
  | .cmdHold, st => st = .offered || !st.isLive
  | .cmdResume, st => st = .offered || !st.isLive
  | .cmdClose, st => st ≠ .opened
  | .cmdAbort, st => !st.isLive
  | .cmdRelease, st => st.isLive
  | _, _ => false

/-- The commands that may change a byte of a buffer: a device reset, a received frame, a host write (R137). -/
def writesBuffers : Instr → Bool
  | .deviceReset _ => true
  | .receiveDispatch _ => true
  | .bufferWindowWrite _ _ _ => true
  | .registerWrite _ _ _ => true
  | _ => false

/-! ### The laws that every step keeps -/

/-- The sum of G over all associations. -/
def State.grantSum (s : State) : Nat := (allSlots.map fun i => (s.assocAt i).elim 0 (·.grant)).sum

/-- Every grant is backed by a free buffer (R130, R12). -/
structure State.CreditBacked (s : State) : Prop where
  reserved : s.pool.reserved = s.grantSum
  backed : s.pool.reserved ≤ s.pool.freeList.length
  ended : ∀ i a, s.assocAt i = some a → a.state.isLive = false → a.grant = 0

/-- A source's reason set is not empty. -/
def State.holdsReasons (s : State) : Source → Bool
  | .slot i => (s.assocAt i).elim false fun a => !a.reasons.isEmpty
  | .line l => !(s.line l).reasons.isEmpty

/-- The attention list holds each source with reasons once (R181, R183), and an empty list has no holdoff (R185). -/
structure State.NoticesListed (s : State) : Prop where
  once : s.attention.list.Nodup
  listed : ∀ src, src ∈ s.attention.list ↔ s.holdsReasons src = true
  quiet : s.attention.list = [] → s.attention.holdoffTimer = .stopped ∧ s.attention.indicator = false

/-- The address map holds one entry for each live association and none other (R19). -/
structure State.KeysMapped (s : State) : Prop where
  mapped : ∀ k i, { key := k, slot := i } ∈ s.addressMap ↔
    ∃ a, s.assocAt i = some a ∧ a.state.isLive = true ∧ a.key = k
  once : (s.addressMap.map (·.key)).Nodup

/-- A live association whose origin is a listen entry. -/
def State.liveFrom (s : State) (n : ListenNo) (i : Slot) : Bool :=
  (s.assocAt i).elim false fun a => a.state.isLive && a.origin = .listen n

/-- Each admitted count is the number of live associations of the entry (R53). -/
def State.AdmittedCounted (s : State) : Prop :=
  ∀ n, (s.listenAt n).admitted = (allSlots.filter (s.liveFrom n)).length

/-- A line's state, grace timer, transmitter and reply queue fit together (R141, R145, R156, R140, R150). -/
structure LineRecord.Consistent (r : LineRecord) : Prop where
  replies : r.replies.length ≤ 8 ∧ r.replies.Nodup
  burst : r.burst ≤ 4
  sending : r.tx ≠ .idle → r.state = .active
  grace : r.state = .suspended ↔ r.graceTimer ≠ .stopped
  carrier : r.state = .active → r.carrier = true

/-- Both lines are consistent, a live association stands on an ACTIVE or SUSPENDED line (R161), and a stopped controller has no
frame in flight (R170). -/
structure State.LinesConsistent (s : State) : Prop where
  each : ∀ l, (s.line l).Consistent
  live : ∀ i a, s.assocAt i = some a → a.state.isLive = true → (s.line a.key.line).state.opens = true
  stopped : s.controller = .stopped → s.bothIdle = true

/-- The buffers of all send queues. -/
def State.outboundBuffers (s : State) : List BufferNo :=
  allSlots.flatMap fun i => (s.assocAt i).elim [] fun a => a.sendQueue.map (·.buffer)

/-- The buffers of all inbound queues. -/
def State.inboundBuffers (s : State) : List BufferNo :=
  allSlots.flatMap fun i => (s.assocAt i).elim [] fun a => a.inboundQueue.map (·.buffer)

/-- Every buffer is held in exactly one place (R124, R125, R126, R129). A host-held buffer is one in state HOST. -/
structure State.BuffersHeld (s : State) : Prop where
  freeOnce : s.pool.freeList.Nodup
  free : ∀ b, b ∈ s.pool.freeList ↔ s.bufferStateAt b = .free
  outboundOnce : s.outboundBuffers.Nodup
  outbound : ∀ b, b ∈ s.outboundBuffers ↔ s.bufferStateAt b = .outbound
  inboundOnce : s.inboundBuffers.Nodup
  inbound : ∀ b, b ∈ s.inboundBuffers ↔ s.bufferStateAt b = .inbound
  retiring : ∀ l b, s.bufferStateAt b = .retiring l → s.inFlight l = some b
  flight : ∀ l b, s.inFlight l = some b → s.bufferStateAt b = .retiring l ∨
    ∃ i a, s.assocAt i = some a ∧ a.key.line = l ∧ b ∈ a.sendQueue.map (·.buffer)
  ended : ∀ i a, s.assocAt i = some a → a.state.isLive = false → a.sendQueue = []

/-- The parameters of every record and of every listen entry are in the ranges of R8 and R49. -/
structure State.ParamsInRange (s : State) : Prop where
  records : ∀ i a, s.assocAt i = some a → a.params.inRange = true
  entries : ∀ n, (s.listenAt n).params.inRange = true

/-- The outbound part of a live association: tags in order, positions in order, bounds (R10, R65, R85, R108, R109). -/
structure Assoc.TagsOrdered (a : Assoc) : Prop where
  tags : a.sendQueue.map (·.tag) = (List.range a.sendQueue.length).map fun k => a.sendBase + BitVec.ofNat 8 k
  length : a.sendQueue.length = tagDistance a.sendBase a.submitTag
  next : tagDistance a.sendBase a.nextToSend ≤ tagDistance a.sendBase a.sentMark
  sent : tagDistance a.sendBase a.sentMark ≤ tagDistance a.sendBase a.submitTag
  peer : tagDistance a.sendBase a.sentMark ≤ tagDistance a.sendBase a.peerLimit
  credit : tagDistance a.sendBase a.peerLimit ≤ 15
  window : tagDistance a.sendBase a.nextToSend ≤ a.params.window
  queue : a.sendQueue.length ≤ a.params.sendQueueLimit
  empty : a.state.sends = false → a.sendQueue = []
  draining : a.state = .draining → a.sendQueue ≠ []

/-- The inbound part: the queue and G within the quota, G 0 in OFFERED (R103, R12). -/
def Assoc.quotaKept (a : Assoc) : Prop :=
  (a.state.credits = true → a.inboundQueue.length + a.grant ≤ a.params.inboundQuota) ∧
    (a.state = .offered → a.grant = 0 ∧ a.inboundQueue = [])

/-- Every live association has its outbound part in order and its inbound part within its quota. -/
structure State.RecordsOrdered (s : State) : Prop where
  params : s.ParamsInRange
  live : ∀ i a, s.assocAt i = some a → a.state.isLive = true → a.TagsOrdered ∧ a.quotaKept
  ended : ∀ i a, s.assocAt i = some a → a.state.isLive = false → a.sendQueue = []

/-- The buffer bytes are in canonical form (log 12). -/
structure State.BytesCanonical (s : State) : Prop where
  params : s.ParamsInRange
  memory : Memory.wf s.pool.memory = true

end Sys2Proof.Machine
end

