-- ==== Sys2Proof/Certificates/Slice0/Obligations.lean ====
section
/-! DEFINITION. The statements. `OBLIGATIONS.json` gives each its rules; where a clause rests on a choice of the model, the
docstring names the log entry. -/

section Statements

open Sys2Proof Sys2Proof.Machine

/-! ### Step, queue, reset -/

/-- A step takes the command at the front of the queue (log 1). -/
def Obligations.StepTakesTheFrontCommand : Prop :=
  ∀ (s : State) (c : Instr) (rest : List Instr), s.pending = c :: rest → step s = exec c { s with pending := rest }

/-- A step on an empty queue is one unit of 100 microseconds, with a tick when the phase reaches the interval (R153, log 2). A tick
that is being taken timer by timer is over first (log 3). -/
def Obligations.EmptyQueueStepIsOneUnit : Prop :=
  ∀ s : State, s.pending = [] →
    (s.resetAsserted = true ∨ s.timebase.interval = 0 → step s = .next s) ∧
    (s.resetAsserted = false → s.timebase.taken = none → s.timebase.phase + 1 < s.timebase.interval →
      step s = .next { s with timebase := { s.timebase with phase := s.timebase.phase + 1 } }) ∧
    (s.resetAsserted = false → s.timebase.taken = none → s.timebase.interval ≠ 0 →
      s.timebase.interval ≤ s.timebase.phase + 1 → step s = exec (.tick none) s) ∧
    (s.resetAsserted = false → s.timebase.taken ≠ none → s.timebase.interval ≠ 0 →
      ∃ t, exec (.tick none) s = .next t ∧ t.timebase.taken = none ∧ step s = step t)

/-- No command touches the queue of the commands that wait (log 1). -/
def Obligations.CommandsLeaveTheQueue : Prop :=
  ∀ (c : Instr) (s t : State), exec c s = .next t → t.pending = s.pending

/-- DEVICE_RESET gives every block its reset values, for each edge of the input; the carrier levels follow the input
(R23, R49, R138, R161, R173, R183, R188, R191; the edges are log 6, and a release of an input that is not asserted does not
occur, log 1). That no delivered frame waits for dispatch afterwards is the model's choice, not the spec's (log 24). -/
def Obligations.DeviceResetGivesTheResetValues : Prop :=
  (∀ s : State, s.resetAsserted = false → exec (.deviceReset .release) s = .next s) ∧
  ∀ (s : State) (e : ResetEdge), (e = .release → s.resetAsserted = true) →
    ∃ t, exec (.deviceReset e) s = .next t ∧ (t.resetAsserted = true ↔ e = .assertion) ∧
    (∀ i, t.generation i = 0 ∧ t.assocAt i = none) ∧ t.addressMap = [] ∧
    (∀ n, listenWords (t.listenAt n) = #v[0x32001000, 0, 0x0804F000, 0x02030A04]) ∧
    (∀ b, t.bufferStateAt b = .free) ∧ t.pool.freeList.map (·.val) = List.range 128 ∧ (∀ b k, t.bufferByte b k = 0) ∧
    (∀ l, (t.line l).carrier = (s.line l).carrier ∧ (t.line l).graceTimer = .stopped ∧ (t.line l).reasons = .empty ∧
      (t.line l).arrived = [] ∧ (t.line l).replies = [] ∧ (t.line l).tx = .idle ∧ (t.line l).burst = 0 ∧
      (t.line l).txOut = .idleFill) ∧
    t.timebase.phase = 0 ∧ t.timebase.taken = none ∧ t.mailbox.latched = none ∧
    t.attention.list = [] ∧ t.attention.holdoffTimer = .stopped ∧
    t.readReg .controllerStatus = 0x00000000 ∧ t.readReg .faultFlags = 0x00000000 ∧ t.readReg .tickInterval = 0x00000064 ∧
    t.readReg .hostFloor = 0x00000004 ∧ t.readReg .poolStatus = 0x003F0080 ∧ t.readReg .mailboxStatus = 0x0000FF00 ∧
    (∀ k, t.readReg (.param k) = 0x00000000) ∧ (∀ k, t.readReg (.result k) = 0x00000000) ∧
    t.readReg .attentionPort = 0x000000FF ∧ t.readReg .attentionStatus = 0x00000000 ∧
    t.readReg .notification = 0x00000100 ∧ t.readReg .windowSelect = 0x00000000 ∧
    (∀ l, t.readReg (.lineControl l) = 0x00000000 ∧
      t.readReg (.lineStatus l) = (if (s.line l).carrier then 0x3F3F0010 else 0x3F3F0000) ∧
      t.readReg (.lineGrace l) = 0x00000014 ∧ ∀ k, t.readReg (.tally l k) = 0x00000000)

/-- While the reset input is asserted the part takes no host access, receives no frame, and does not call the host (R191), and no
tick occurs, so no timer expires (logs 2 and 6); what a read leaves on the data bus is the model's own field (log 10). A line
that is not ACTIVE receives nothing (R28). -/
def Obligations.ResetAndInactiveLinesTakeNothing : Prop :=
  (∀ s : State, s.resetAsserted = true →
    (∀ word lanes data, exec (.registerWrite word lanes data) s = .next s) ∧
    (∀ word lanes data, exec (.bufferWindowWrite word lanes data) s = .next s) ∧
    (∀ lanes, exec (.attentionPortRead lanes) s = .next { s with dataOut := 0 }) ∧
    (∀ word lanes, exec (.bufferWindowRead word lanes) s = .next { s with dataOut := 0 }) ∧
    exec .start s = .next s ∧ exec .stop s = .next s ∧
    (∀ withStart withStop, exec (.clear withStart withStop) s = .next s) ∧
    (∀ l, exec (.lineEnable l) s = .next s ∧ exec (.lineDisable l) s = .next s) ∧
    (∀ v, exec (.faultFlagClear v) s = .next s ∧ (∀ l, exec (.tallyClear l v) s = .next s) ∧
      exec (.tickIntervalWrite v) s = .next s ∧ exec (.hostFloorWrite v) s = .next s ∧
      exec (.notificationSettingsWrite v) s = .next s) ∧
    (∀ which, exec (.tick which) s = .next s) ∧
    (∀ i, exec (.openRetryExpiry i) s = .next s ∧ exec (.offerExpiry i) s = .next s ∧
      exec (.resendExpiry i) s = .next s ∧ exec (.closeTimerExpiry i) s = .next s ∧
      exec (.receiptTimerExpiry i) s = .next s) ∧
    (∀ l, exec (.graceExpiry l) s = .next s) ∧ exec .holdoffExpiry s = .next s ∧ s.notifyAsserted = false) ∧
  (∀ (s : State) (l : Line), s.resetAsserted = true ∨ (s.line l).state ≠ .active →
    (∀ bits, exec (.startPattern l bits) s = .next s) ∧ (∀ coded, exec (.frameArrival l coded) s = .next s) ∧
    (∀ coded cause, exec (.frameAborted l coded cause) s = .next s))

/-! ### The laws that every step keeps -/

/-- The reset state has all the laws. -/
def Obligations.ResetStateHasTheLaws : Prop :=
  State.reset.CreditBacked ∧ State.reset.NoticesListed ∧ State.reset.KeysMapped ∧ State.reset.AdmittedCounted ∧
    State.reset.LinesConsistent ∧ State.reset.BuffersHeld ∧ State.reset.RecordsOrdered ∧ State.reset.BytesCanonical

/-- The reserved count stays the sum of G and at most the free-list length (R130). -/
def Obligations.CreditStaysBacked : Prop :=
  ∀ s t : State, s.CreditBacked → step s = .next t → t.CreditBacked

/-- The attention list stays the list of the sources with reasons, each once (R181, R183, R185). -/
def Obligations.NoticesStayListed : Prop :=
  ∀ s t : State, s.NoticesListed → step s = .next t → t.NoticesListed

/-- The address map stays the list of the live associations (R18, R19). -/
def Obligations.KeysStayMapped : Prop :=
  ∀ s t : State, s.KeysMapped → step s = .next t → t.KeysMapped

/-- Each admitted count stays the number of the entry's live associations (R53). -/
def Obligations.AdmittedCountsStayExact : Prop :=
  ∀ s t : State, s.AdmittedCounted → step s = .next t → t.AdmittedCounted

/-- Line states, grace timers, transmitters, reply queues and live associations keep fitting together (R141, R161, R170). -/
def Obligations.LinesStayConsistent : Prop :=
  ∀ s t : State, s.LinesConsistent → step s = .next t → t.LinesConsistent

/-- Every buffer stays held in exactly one place (R125). -/
def Obligations.BuffersStayHeldOnce : Prop :=
  ∀ s t : State, s.BuffersHeld → step s = .next t → t.BuffersHeld

/-- Tag positions stay in order, within the window, the queue limit and 15 tags of credit, and the inbound part within the
quota (R10, R65, R85, R103, R108). -/
def Obligations.RecordsStayOrdered : Prop :=
  ∀ s t : State, s.RecordsOrdered → step s = .next t → t.RecordsOrdered

/-- The buffer bytes stay in canonical form (log 12). -/
def Obligations.BufferBytesStayCanonical : Prop :=
  ∀ s t : State, s.BytesCanonical → step s = .next t → t.BytesCanonical

/-- A step from a state whose credit is backed neither faults nor is refused (R130: "An acceptance therefore always finds a
buffer at the head of the free list"). -/
def Obligations.BackedStatesNeverStop : Prop :=
  ∀ s : State, s.CreditBacked → ∃ t, step s = .next t

/-- Only a device reset, a dispatched frame and a host write change a byte of a buffer (R137). -/
def Obligations.FewCommandsWriteBuffers : Prop :=
  ∀ (c : Instr) (s t : State), writesBuffers c = false → exec c s = .next t → ∀ b k, t.bufferByte b k = s.bufferByte b k

/-! ### Framer and frame format -/

/-- A frame that reaches its end pattern with a good check and a length of 7 to 248 is delivered; any other is counted in CHECK
(R28, R29). -/
def Obligations.FrameArrivalDeliversOrCounts : Prop :=
  ∀ (s : State) (l : Line) (ys : List Byte), s.resetAsserted = false → (s.line l).state = .active →
    (s.line l).rx = .collecting [] 0xFFFF 0 false 0 0 → ys.length < 249 →
    (crcBytes 0xFFFF ys = 0 ∧ 7 ≤ ys.length →
      exec (.frameArrival l (escape ys)) s = .next (s.setLine l { s.line l with
        rx := .hunting 0, arrived := (s.line l).arrived ++ [{ bytes := ys.take (ys.length - 2) }] })) ∧
    (¬ (crcBytes 0xFFFF ys = 0 ∧ 7 ≤ ys.length) →
      exec (.frameArrival l (escape ys)) s = .next (s.setLine l { s.line l with
        rx := .hunting 0, tallies := (s.line l).tallies.bump .check }))

/-- What the transmit side sends for a frame, the receive side delivers intact, after any length of idle fill (R26, R27, R28,
R30): START_PATTERN begins the frame and FRAME_ARRIVAL delivers it (what each carries is log 15). -/
def Obligations.SentFrameIsReceivedIntact : Prop :=
  ∀ (s : State) (l : Line) (fill : Nat) (xs : List Byte), s.resetAsserted = false → (s.line l).state = .active →
    (s.line l).rx = .hunting 0 → 5 ≤ xs.length → xs.length ≤ 246 →
    wireImage xs = [0xB4, 0x01] ++ codedBody xs ++ [0xB4, 0x02] ∧
    ∃ t, exec (.startPattern l (List.replicate fill true)) s = .next t ∧
      t = s.setLine l { s.line l with rx := .collecting [] 0xFFFF 0 false 0 0 } ∧
      exec (.frameArrival l (codedBody xs)) t = .next (s.setLine l { s.line l with
        arrived := (s.line l).arrived ++ [{ bytes := xs }] })

/-- A frame aborted by the abort pattern, a coding violation or a start pattern, or grown to 249 bytes, is counted once in
CHECK; the start pattern begins a new frame (R26, R29). -/
def Obligations.AbortedFrameIsCounted : Prop :=
  ∀ (s : State) (l : Line) (ys : List Byte), s.resetAsserted = false → (s.line l).state = .active →
    (s.line l).rx = .collecting [] 0xFFFF 0 false 0 0 →
    (ys.length < 249 → ∀ y, violates y = true →
      exec (.frameAborted l (escape ys) .abortPattern) s = .next (s.setLine l { s.line l with
        rx := .hunting 0, tallies := (s.line l).tallies.bump .check }) ∧
      exec (.frameAborted l (escape ys) (.violation y)) s = .next (s.setLine l { s.line l with
        rx := .hunting 0, tallies := (s.line l).tallies.bump .check }) ∧
      exec (.frameAborted l (escape ys) .startPattern) s = .next (s.setLine l { s.line l with
        tallies := (s.line l).tallies.bump .check })) ∧
    (ys.length = 249 →
      exec (.frameAborted l (escape ys) .overLong) s = .next (s.setLine l { s.line l with
        rx := .hunting 0, tallies := (s.line l).tallies.bump .check }))

/-- Every frame of a station with its fields in range is read back from its bytes as it was, and whatever is read from bytes has
its fields in range and those bytes but for the destination (R31, R34). -/
def Obligations.FrameFieldsSurviveTheWire : Prop :=
  (∀ f : Frame, f.inRange → parseFrame (stationBytes f) = some f) ∧
  (∀ (xs : List Byte) (f : Frame), parseFrame xs = some f → f.inRange ∧ ∃ d, xs = frameBytes d (f.station.setWidth 8) f)

/-- The malformed frames are those of the table of R34. `rest` holds the kind fields, so the frame's length, check bytes
counted, is seven more than its length. -/
def Obligations.MalformedFramesAreThoseOfTheTable : Prop :=
  ∀ (dst src kind an epoch : Byte) (rest : List Byte),
    parseFrame (dst :: src :: kind :: an :: epoch :: rest) = none ↔
      kind ∉ ([0x11, 0x12, 0x13, 0x20, 0x21, 0x22, 0x31, 0x32, 0x3F] : List Byte) ∨
      (kind ∈ ([0x22, 0x32, 0x3F] : List Byte) ∧ rest.length + 7 ≠ 7) ∨
      (kind ∈ ([0x13, 0x31] : List Byte) ∧ rest.length + 7 ≠ 8) ∨
      (kind ∈ ([0x11, 0x12, 0x21] : List Byte) ∧ rest.length + 7 ≠ 9) ∨
      (kind = 0x20 ∧ rest.length + 7 < 9) ∨
      15 < an.toNat ∨ epoch = 0 ∨ src = 0 ∨ 63 ≤ src.toNat ∨
      (kind ∈ ([0x11, 0x12, 0x21] : List Byte) ∧ 15 < (rest.getD 1 0).toNat) ∨
      (kind ∈ ([0x11, 0x12] : List Byte) ∧ ((rest.getD 0 0).toNat < 16 ∨ 240 < (rest.getD 0 0).toNat)) ∨
      (kind = 0x13 ∧ (rest.getD 0 0 = 0 ∨ 6 < (rest.getD 0 0).toNat))

/-! ### Receive dispatch -/

/-- The tests of R33 in order: each discard counts in its own tally and changes nothing else. -/
def Obligations.UndispatchedFramesAreCounted : Prop :=
  ∀ (s : State) (l : Line),
    ((s.line l).arrived = [] → exec (.receiveDispatch l) s = .next s) ∧
    ∀ d rest, (s.line l).arrived = d :: rest →
      ((s.line l).state ≠ .active →
        exec (.receiveDispatch l) s = .next (s.setLine l { s.line l with arrived := rest })) ∧
      ((s.line l).state = .active → s.controller ≠ .running →
        exec (.receiveDispatch l) s = .next (s.setLine l { s.line l with
          arrived := rest, tallies := (s.line l).tallies.bump .idle })) ∧
      ((s.line l).state = .active → s.controller = .running → d.bytes.head? ≠ some 0 →
        exec (.receiveDispatch l) s = .next (s.setLine l { s.line l with
          arrived := rest, tallies := (s.line l).tallies.bump .foreign })) ∧
      ((s.line l).state = .active → s.controller = .running → d.bytes.head? = some 0 → parseFrame d.bytes = none →
        exec (.receiveDispatch l) s = .next (s.setLine l { s.line l with
          arrived := rest, tallies := (s.line l).tallies.bump .malformed }))

/-- A frame without a live association, or of another epoch, is answered by kind and touches no record (R37, R38, R40), and an
OPEN-REQUEST that meets OPENING is answered CROSSED whatever its epoch (R48). -/
def Obligations.UnownedFramesAreAnswered : Prop :=
  ∀ (s : State) (l : Line) (f : Frame), s.frameReady l f →
    (s.lookup { line := l, station := f.station, an := f.an } = none ∨
      (∃ i a, s.lookup { line := l, station := f.station, an := f.an } = some i ∧ s.assocAt i = some a ∧
        a.epoch ≠ f.epoch) →
      (f.body.kind = .data ∨ f.body.kind = .receipt ∨ f.body.kind = .probe ∨ f.body.kind = .openAccept →
        exec (.receiveDispatch l) s = .next ((s.popArrived l).handReply l
          { kind := .disown, station := f.station, an := f.an, epoch := f.epoch })) ∧
      (f.body.kind = .close →
        exec (.receiveDispatch l) s = .next ((s.popArrived l).handReply l
          { kind := .closeConfirm, station := f.station, an := f.an, epoch := f.epoch })) ∧
      (f.body.kind = .openRefuse ∨ f.body.kind = .closeConfirm ∨ f.body.kind = .disown →
        exec (.receiveDispatch l) s = .next (s.popArrived l))) ∧
    (∀ i a, s.lookup { line := l, station := f.station, an := f.an } = some i → s.assocAt i = some a →
      a.state = .opening → f.body.kind = .openRequest →
      exec (.receiveDispatch l) s = .next ((s.popArrived l).handReply l
        { kind := .openRefuse .crossed, station := f.station, an := f.an, epoch := f.epoch }))

/-- A reply handed to a queue: an identical entry leaves the queue as it is, a queue of 8 drops and counts it, else it joins
the tail (R142, R35). -/
def Obligations.ReplyQueueTakesReplies : Prop :=
  ∀ (s : State) (l : Line) (r : Reply),
    (r ∈ (s.line l).replies → s.handReply l r = s) ∧
    (r ∉ (s.line l).replies → 8 ≤ (s.line l).replies.length →
      s.handReply l r = s.setLine l { s.line l with tallies := { (s.line l).tallies with
        replyDrop := if (s.line l).tallies.replyDrop < 65535 then (s.line l).tallies.replyDrop + 1
          else (s.line l).tallies.replyDrop } }) ∧
    (r ∉ (s.line l).replies → (s.line l).replies.length < 8 →
      s.handReply l r = s.setLine l { s.line l with replies := (s.line l).replies ++ [r] })

/-- A listen entry matches a request by enable, line, and the bits of station and AN that its masks leave to compare (R50). -/
def Obligations.ListenEntryMatchesByMask : Prop :=
  ∀ (e : ListenEntry) (l : Line) (f : Frame), e.matchesRequest l f = true ↔
    e.enabled = true ∧ e.line = l ∧
    (∀ k, k < 6 → e.stationMask.getLsbD k = false → f.station.getLsbD k = e.stationValue.getLsbD k) ∧
    (∀ k, k < 4 → e.anMask.getLsbD k = false → f.an.getLsbD k = e.anValue.getLsbD k)

/-- The refusals of listen admission (R51). -/
def Obligations.ListenAdmissionRefuses : Prop :=
  ∀ (s : State) (l : Line) (f : Frame), s.frameReady l f → f.body.kind = .openRequest →
    s.lookup { line := l, station := f.station, an := f.an } = none →
    ((∀ n, (s.listenAt n).matchesRequest l f = false) →
      exec (.receiveDispatch l) s = .next ((s.popArrived l).handReply l
        { kind := .openRefuse .noListener, station := f.station, an := f.an, epoch := f.epoch })) ∧
    (∀ n, (s.listenAt n).matchesRequest l f = true → (∀ m, m < n → (s.listenAt m).matchesRequest l f = false) →
      ((s.listenAt n).admissionLimit ≤ (s.listenAt n).admitted →
        exec (.receiveDispatch l) s = .next ((s.popArrived l).handReply l
          { kind := .openRefuse .admissionFull, station := f.station, an := f.an, epoch := f.epoch })) ∧
      ((s.listenAt n).admitted < (s.listenAt n).admissionLimit → (∀ i, s.assocAt i ≠ none) →
        exec (.receiveDispatch l) s = .next ((s.popArrived l).handReply l
          { kind := .openRefuse .tableFull, station := f.station, an := f.an, epoch := f.epoch })))

/-- Admission creates the association in the lowest FREE slot with the frame's and the entry's values (R4, R7, R52): OFFERED
with its offer timer in ASK mode (R55), OPEN with its initial G in AUTO mode (R54, R134; RECEIPT with the first raise is R96 as
log 14 reads it). -/
def Obligations.AdmissionCreatesAnAssociation : Prop :=
  ∀ (s : State) (l : Line) (f : Frame) (limit credit : Nat) (n : ListenNo) (i : Slot),
    s.frameReady l f → f.body = .openRequest limit credit →
    s.lookup { line := l, station := f.station, an := f.an } = none →
    (s.listenAt n).matchesRequest l f = true → (∀ m, m < n → (s.listenAt m).matchesRequest l f = false) →
    (s.listenAt n).admitted < (s.listenAt n).admissionLimit → (s.listenAt n).params.inRange = true → s.lowestFree i →
    ∃ t a, exec (.receiveDispatch l) s = .next t ∧ t.generation i = s.generation i + 1 ∧ t.assocAt i = some a ∧
      t.addressMap = s.addressMap ++ [{ key := { line := l, station := f.station, an := f.an }, slot := i }] ∧
      t.listenAt n = { s.listenAt n with admitted := (s.listenAt n).admitted + 1 } ∧
      (∀ m, m ≠ n → t.listenAt m = s.listenAt m) ∧
      t.attention = s.attention.join (.slot i) ∧ (t.line l).replies = (s.line l).replies ∧
      (∀ b k, t.bufferByte b k = s.bufferByte b k) ∧
      ((s.listenAt n).mode = .ask → t.pool = s.pool ∧ (∀ j, j ≠ i → t.slotRec j = s.slotRec j) ∧
        a = { state := .offered, key := { line := l, station := f.station, an := f.an }, epoch := f.epoch,
              origin := .listen n, params := (s.listenAt n).params, outboundLimit := some limit,
              offerTimeout := some (s.listenAt n).offerTimeout, sendQueue := [], sendBase := 0, nextToSend := 0,
              sentMark := 0, submitTag := 0, peerLimit := BitVec.ofNat 8 credit, retryCount := 0, abandoned := 0,
              inboundQueue := [], expected := 0, grant := 0, advertised := 0, hold := false,
              stateTimer := .counting (s.listenAt n).offerTimeout, receiptTimer := .stopped,
              pendingControl := ⟨false, false, false, false, false⟩, reasons := ⟨false, true, false, false, false⟩ }) ∧
      ((s.listenAt n).mode = .auto →
        a = { state := .opened, key := { line := l, station := f.station, an := f.an }, epoch := f.epoch,
              origin := .listen n, params := (s.listenAt n).params, outboundLimit := some limit,
              offerTimeout := some (s.listenAt n).offerTimeout, sendQueue := [], sendBase := 0, nextToSend := 0,
              sentMark := 0, submitTag := 0, peerLimit := BitVec.ofNat 8 credit, retryCount := 0, abandoned := 0,
              inboundQueue := [], expected := 0, grant := min (s.listenAt n).params.inboundQuota s.available,
              advertised := 0, hold := false, stateTimer := .stopped, receiptTimer := .stopped,
              pendingControl :=
                ⟨true, false, false, decide (0 < min (s.listenAt n).params.inboundQuota s.available), false⟩,
              reasons := ⟨true, false, false, false, false⟩ })

/-- A remote restart (R62). Step 1: an OPEN-REQUEST of another epoch ends an association in OFFERED, OPEN, DRAINING or CLOSING with
REMOTE_RESET, whatever follows. Step 2: listen admission takes the frame with the table, the pool and the listen table as step
1 left them (R51): it is refused with NO_LISTENER, ADMISSION_FULL or TABLE_FULL, or a new association is created in another slot
(R52, R54, R55, R134; RECEIPT with the first raise is R96 as log 14 reads it), whose source joins the attention list behind the
old one's. The pass of the claim is that of EntryToEndedEffects and RefreshPassSharesTheCredit. -/
def Obligations.RestartEndsTheOldAssociation : Prop :=
  ∀ (s : State) (l : Line) (f : Frame) (i : Slot) (a : Assoc) (c : Claim), s.frameReady l f → f.body.kind = .openRequest →
    s.lookup { line := l, station := f.station, an := f.an } = some i → s.assocAt i = some a → a.epoch ≠ f.epoch →
    a.state.isLive = true → a.state ≠ .opening → c = (Claim.begin (s.popArrived l)).endAssoc i .remoteReset →
    (∃ t b, exec (.receiveDispatch l) s = .next t ∧ t.assocAt i = some b ∧ t.generation i = s.generation i ∧
      b.state = .ended .remoteReset ∧ b.key = a.key ∧ b.epoch = a.epoch ∧ b.grant = 0 ∧ b.sendQueue = [] ∧
      b.abandoned = a.abandoned + a.sendQueue.length ∧ b.inboundQueue = a.inboundQueue ∧ b.reasons.ended = true ∧
      b.pendingControl = .empty ∧ b.stateTimer = .stopped ∧ b.receiptTimer = .stopped) ∧
    ((∀ n, (s.listenAt n).matchesRequest l f = false) →
      exec (.receiveDispatch l) s = .next (c.update fun u => u.handReply l
        { kind := .openRefuse .noListener, station := f.station, an := f.an, epoch := f.epoch }).finish) ∧
    (∀ n k, (s.listenAt n).matchesRequest l f = true → (∀ m, m < n → (s.listenAt m).matchesRequest l f = false) →
      k = (if a.origin = .listen n then (s.listenAt n).admitted - 1 else (s.listenAt n).admitted) →
      ((s.listenAt n).admissionLimit ≤ k → exec (.receiveDispatch l) s = .next (c.update fun u => u.handReply l
        { kind := .openRefuse .admissionFull, station := f.station, an := f.an, epoch := f.epoch }).finish) ∧
      (k < (s.listenAt n).admissionLimit → (∀ j, s.assocAt j ≠ none) →
        exec (.receiveDispatch l) s = .next (c.update fun u => u.handReply l
          { kind := .openRefuse .tableFull, station := f.station, an := f.an, epoch := f.epoch }).finish) ∧
      (∀ j limit credit g, k < (s.listenAt n).admissionLimit → s.lowestFree j → f.body = .openRequest limit credit →
        (s.listenAt n).params.inRange = true →
        g = (if (s.listenAt n).mode = .ask then 0
          else min (s.listenAt n).params.inboundQuota (s.pool.freeList.length +
            ((a.sendQueue.map (·.buffer)).filter fun b => s.inFlight a.key.line ≠ some b).length -
              (s.pool.reserved - a.grant + s.pool.hostFloor))) →
        ∃ t, exec (.receiveDispatch l) s = .next t ∧ t.generation j = s.generation j + 1 ∧
          t.assocAt j = some {
            state := if (s.listenAt n).mode = .ask then .offered else .opened,
            key := { line := l, station := f.station, an := f.an }, epoch := f.epoch, origin := .listen n,
            params := (s.listenAt n).params, outboundLimit := some limit, offerTimeout := some (s.listenAt n).offerTimeout,
            sendQueue := [], sendBase := 0, nextToSend := 0, sentMark := 0, submitTag := 0,
            peerLimit := BitVec.ofNat 8 credit, retryCount := 0, abandoned := 0, inboundQueue := [], expected := 0,
            grant := g, advertised := 0, hold := false,
            stateTimer := if (s.listenAt n).mode = .ask then .counting (s.listenAt n).offerTimeout else .stopped,
            receiptTimer := .stopped,
            pendingControl := ⟨decide ((s.listenAt n).mode = .auto), false, false, decide (0 < g), false⟩,
            reasons := ⟨decide ((s.listenAt n).mode = .auto), decide ((s.listenAt n).mode = .ask), false, false, false⟩ } ∧
          (∀ x b, x ≠ i → x ≠ j → s.assocAt x = some b → ∃ y z,
            t.assocAt x = some { b with grant := y, pendingControl := { b.pendingControl with receipt := z } }) ∧
          (∀ x, x ≠ j → t.generation x = s.generation x ∧ (s.assocAt x = none → t.assocAt x = none)) ∧
          t.addressMap = (s.addressMap.filter fun e => e.key ≠ a.key) ++
            [{ key := { line := l, station := f.station, an := f.an }, slot := j }] ∧
          t.listenAt n = { s.listenAt n with admitted := k + 1 } ∧
          (∀ m, m ≠ n → t.listenAt m = if a.origin = .listen m then
            { s.listenAt m with admitted := (s.listenAt m).admitted - 1 } else s.listenAt m) ∧
          t.attention = (if a.reasons = .empty then s.attention.join (.slot i) else s.attention).join (.slot j) ∧
          (∀ m, t.line m = (s.popArrived l).line m)))

/-- OPEN-ACCEPT opens an association in OPENING (R46), and OPEN-REFUSE ends it with its reason (R47). -/
def Obligations.StationAnswersOpenOrRefuse : Prop :=
  ∀ (s : State) (l : Line) (f : Frame) (i : Slot) (a : Assoc), s.frameFor l f i a → a.state = .opening →
    (∀ limit credit, f.body = .openAccept limit credit →
      exec (.receiveDispatch l) s = .next (((s.popArrived l).setAssoc i { a with
        state := .opened, outboundLimit := some limit, peerLimit := BitVec.ofNat 8 credit, sendBase := 0, nextToSend := 0,
        sentMark := 0, submitTag := 0, retryCount := 0, stateTimer := .stopped,
        pendingControl := { a.pendingControl with
          openRequest := false,
          receipt := a.pendingControl.receipt ||
            decide (1 ≤ tagDistance a.advertised (a.expected + BitVec.ofNat 8 a.grant) ∧
              tagDistance a.advertised (a.expected + BitVec.ofNat 8 a.grant) ≤ 127) } }).raiseSlot i .opened)) ∧
    (∀ reason, f.body = .openRefuse reason →
      exec (.receiveDispatch l) s = .next ((Claim.begin (s.popArrived l)).endAssoc i (.refused reason)).finish)

/-- Entry to ENDED: all its effects on the record and its neighbours (R20), and none from a second cause (R21). The pass that
returned buffers call for follows at the end of the claim. -/
def Obligations.EntryToEndedEffects : Prop :=
  ∀ (c : Claim) (i : Slot) (a : Assoc) (cause : EndCause), c.st.assocAt i = some a →
    (a.state.isLive = true →
      (c.endAssoc i cause).st.assocAt i = some { a with
        state := .ended cause, grant := 0, sendQueue := [], abandoned := a.abandoned + a.sendQueue.length,
        pendingControl := ⟨false, false, false, false, false⟩, stateTimer := .stopped, receiptTimer := .stopped,
        reasons := { a.reasons with ended := true } } ∧
      (c.endAssoc i cause).st.generation i = c.st.generation i ∧
      (∀ j, j ≠ i → (c.endAssoc i cause).st.slotRec j = c.st.slotRec j) ∧
      (c.endAssoc i cause).st.addressMap = c.st.addressMap.filter (fun e => e.key ≠ a.key) ∧
      (∀ b, (c.endAssoc i cause).st.bufferStateAt b =
        if b ∈ a.sendQueue.map (·.buffer) then
          (if c.st.inFlight a.key.line = some b then .retiring a.key.line else .free)
        else c.st.bufferStateAt b) ∧
      (c.endAssoc i cause).st.pool.freeList = c.st.pool.freeList ++
        (a.sendQueue.map (·.buffer)).filter (fun b => c.st.inFlight a.key.line ≠ some b) ∧
      (c.endAssoc i cause).st.pool.reserved = c.st.pool.reserved - a.grant ∧
      (c.endAssoc i cause).st.pool.memory = c.st.pool.memory ∧
      (c.endAssoc i cause).st.pool.hostFloor = c.st.pool.hostFloor ∧
      (c.endAssoc i cause).st.pool.refreshPtr = c.st.pool.refreshPtr ∧
      (∀ n, (c.endAssoc i cause).st.listenAt n =
        if a.origin = .listen n then { c.st.listenAt n with admitted := (c.st.listenAt n).admitted - 1 }
        else c.st.listenAt n) ∧
      (c.endAssoc i cause).st.attention =
        (if a.reasons = ⟨false, false, false, false, false⟩ then c.st.attention.join (.slot i) else c.st.attention) ∧
      (∀ l, (c.endAssoc i cause).st.line l = c.st.line l) ∧
      (c.endAssoc i cause).st.mailbox = c.st.mailbox ∧ (c.endAssoc i cause).st.controller = c.st.controller ∧
      (c.endAssoc i cause).served = c.served ∧
      ((c.endAssoc i cause).trigger = true ↔
        c.trigger = true ∨ ∃ e ∈ a.sendQueue, c.st.inFlight a.key.line ≠ some e.buffer)) ∧
    (a.state.isLive = false → c.endAssoc i cause = c)

/-- DATA of the expected class is accepted: buffer, bytes, queue, E, G, reserved count, INBOUND and the receipt that becomes due
(R88, R89); every other byte of every buffer is as before. -/
def Obligations.ExpectedDataIsAccepted : Prop :=
  ∀ (s : State) (l : Line) (f : Frame) (i : Slot) (a : Assoc) (payload : List Byte) (b : BufferNo) (rest : List BufferNo),
    s.frameFor l f i a → f.body = .data a.expected payload → a.state.receives = true → 0 < a.grant →
    payload.length ≤ a.params.inboundLimit → payload.length ≤ 240 → s.pool.freeList = b :: rest →
    Memory.wf s.pool.memory = true →
    ∃ t, exec (.receiveDispatch l) s = .next t ∧ t.pool.freeList = rest ∧ t.pool.reserved = s.pool.reserved - 1 ∧
      t.bufferStateAt b = .inbound ∧ (∀ x, x ≠ b → t.bufferStateAt x = s.bufferStateAt x) ∧
      (∀ k, k < payload.length → t.bufferByte b k = payload.getD k 0) ∧
      (∀ x k, k < 240 → x ≠ b ∨ payload.length ≤ k → t.bufferByte x k = s.bufferByte x k) ∧
      t.assocAt i = some { a with
        inboundQueue := a.inboundQueue ++ [{ buffer := b, length := payload.length }], expected := a.expected + 1,
        grant := a.grant - 1,
        pendingControl := { a.pendingControl with
          receipt := a.pendingControl.receipt || decide (a.params.receiptDelay = 0) },
        receiptTimer := if a.params.receiptDelay ≠ 0 ∧ a.receiptTimer = .stopped then .counting a.params.receiptDelay
          else a.receiptTimer,
        reasons := { a.reasons with inbound := a.reasons.inbound || a.inboundQueue.isEmpty } } ∧
      t.generation i = s.generation i ∧ (∀ j, j ≠ i → t.slotRec j = s.slotRec j) ∧ t.addressMap = s.addressMap ∧
      t.attention = (if a.inboundQueue = [] ∧ a.reasons = ⟨false, false, false, false, false⟩ then
        s.attention.join (.slot i) else s.attention) ∧
      (∀ m, t.line m = (s.popArrived l).line m)

/-- DATA that is not accepted: a payload over the inbound limit ends the association with OVERSIZE whatever its tag (R87), a tag
out of order or a duplicate owes RECEIPT (R90), a tag beyond credit ends it with CREDIT_EXCEEDED (R91), by the distances of
R86. -/
def Obligations.OtherDataOwesReceiptOrEnds : Prop :=
  ∀ (s : State) (l : Line) (f : Frame) (i : Slot) (a : Assoc) (tag : Tag) (payload : List Byte),
    s.frameFor l f i a → f.body = .data tag payload → a.state.receives = true →
    (a.params.inboundLimit < payload.length →
      exec (.receiveDispatch l) s = .next ((Claim.begin (s.popArrived l)).endAssoc i (.protocol .oversize)).finish) ∧
    (payload.length ≤ a.params.inboundLimit →
      (1 ≤ (tag - a.expected).toNat ∧ (tag - a.expected).toNat < a.grant) ∨ 224 ≤ (tag - a.expected).toNat →
      exec (.receiveDispatch l) s = .next ((s.popArrived l).setAssoc i { a with
        pendingControl := { a.pendingControl with receipt := true } })) ∧
    (payload.length ≤ a.params.inboundLimit →
      ((tag - a.expected).toNat = 0 ∧ a.grant = 0) ∨
        (1 ≤ (tag - a.expected).toNat ∧ a.grant ≤ (tag - a.expected).toNat ∧ (tag - a.expected).toNat ≤ 223) →
      exec (.receiveDispatch l) s =
        .next ((Claim.begin (s.popArrived l)).endAssoc i (.protocol .creditExceeded)).finish)

/-- An in-range RECEIPT in OPEN or DRAINING removes the entries it covers, moves the positions, settles retry count and resend
timer, raises DRAINED and moves DRAINING to CLOSING when the queue empties (R73 to R77), and runs one pass if it returned a
buffer (R133). `u` is the state before that pass: nothing but what it says has changed. -/
def Obligations.ReceiptMovesThePositions : Prop :=
  ∀ (s : State) (l : Line) (f : Frame) (i : Slot) (a : Assoc) (next : Tag) (credit : Nat) (gone : List BufferNo),
    s.frameFor l f i a → f.body = .receipt next credit → a.state = .opened ∨ a.state = .draining →
    tagDistance a.sendBase next ≤ tagDistance a.sendBase a.sentMark →
    gone = (a.sendQueue.take (tagDistance a.sendBase next)).map (·.buffer) →
    ∃ u b, exec (.receiveDispatch l) s =
        .next (if ∀ x ∈ gone, s.inFlight a.key.line = some x then u else u.refreshPass) ∧
      u.assocAt i = some b ∧
      b.sendQueue = a.sendQueue.drop (tagDistance a.sendBase next) ∧ b.sendBase = next ∧
      b.nextToSend = (if tagDistance a.sendBase a.nextToSend < tagDistance a.sendBase next then next else a.nextToSend) ∧
      b.peerLimit = (if tagDistance next a.peerLimit < tagDistance next (next + BitVec.ofNat 8 credit) then
        next + BitVec.ofNat 8 credit else a.peerLimit) ∧
      b.retryCount = (if next ≠ a.sendBase ∨ tagDistance next b.nextToSend = 0 then 0 else a.retryCount) ∧
      (∀ e, e = decide (a.sendQueue ≠ [] ∧ b.sendQueue = []) →
        b.state = (if e ∧ a.state = .draining then .closing else a.state) ∧
        b.pendingControl = { a.pendingControl with
          close := a.pendingControl.close || (e && decide (a.state = .draining)) } ∧
        b.reasons = { a.reasons with drained := a.reasons.drained || e } ∧
        b.stateTimer = (if (e ∧ a.state = .draining) ∨ ¬ b.NeedsTimer then .stopped
          else if next ≠ a.sendBase then .counting a.params.resendPeriod else a.stateTimer) ∧
        u.attention = (if e ∧ a.reasons = .empty then s.attention.join (.slot i) else s.attention)) ∧
      b = { a with
        sendQueue := b.sendQueue, sendBase := b.sendBase, nextToSend := b.nextToSend, peerLimit := b.peerLimit,
        retryCount := b.retryCount, state := b.state, pendingControl := b.pendingControl, reasons := b.reasons,
        stateTimer := b.stateTimer } ∧
      (∀ x, u.bufferStateAt x =
        if x ∈ gone then (if s.inFlight a.key.line = some x then .retiring a.key.line else .free)
        else s.bufferStateAt x) ∧
      u.pool = { s.pool with
        bufferState := u.pool.bufferState,
        freeList := s.pool.freeList ++ gone.filter fun x => s.inFlight a.key.line ≠ some x } ∧
      u.generation i = s.generation i ∧ (∀ j, j ≠ i → u.slotRec j = s.slotRec j) ∧
      u = { s.popArrived l with table := u.table, pool := u.pool, attention := u.attention }

/-- The other RECEIPTs: beyond the sent mark it ends the association with BAD_RECEIPT; an old one only settles retry count and
timer in OPEN and DRAINING; in CLOSING an in-range one moves the peer limit alone and an old one does nothing (R73, R76, R78). -/
def Obligations.OtherReceiptsEndOrAreIgnored : Prop :=
  ∀ (s : State) (l : Line) (f : Frame) (i : Slot) (a : Assoc) (next : Tag) (credit : Nat),
    s.frameFor l f i a → f.body = .receipt next credit →
    (a.state = .opened ∨ a.state = .draining →
      (tagDistance a.sendBase a.sentMark < tagDistance a.sendBase next → tagDistance a.sendBase next ≤ 127 →
        exec (.receiveDispatch l) s =
          .next ((Claim.begin (s.popArrived l)).endAssoc i (.protocol .badReceipt)).finish) ∧
      (tagDistance a.sendBase a.sentMark < tagDistance a.sendBase next → 128 ≤ tagDistance a.sendBase next →
        exec (.receiveDispatch l) s = .next ((s.popArrived l).setAssoc i { a with
          retryCount := if tagDistance a.sendBase a.nextToSend = 0 then 0 else a.retryCount,
          stateTimer := if a.NeedsTimer then a.stateTimer else .stopped }))) ∧
    (a.state = .closing →
      (next = a.sendBase →
        exec (.receiveDispatch l) s = .next ((s.popArrived l).setAssoc i { a with
          peerLimit := if tagDistance next a.peerLimit < tagDistance next (next + BitVec.ofNat 8 credit) then
            next + BitVec.ofNat 8 credit else a.peerLimit })) ∧
      (1 ≤ tagDistance a.sendBase next → tagDistance a.sendBase next ≤ 127 →
        exec (.receiveDispatch l) s =
          .next ((Claim.begin (s.popArrived l)).endAssoc i (.protocol .badReceipt)).finish) ∧
      (128 ≤ tagDistance a.sendBase next → exec (.receiveDispatch l) s = .next (s.popArrived l)))

/-- The other frames of an association: CLOSE ends it by its final tag (R110, R111), CLOSE-CONFIRM in CLOSING (R113) and DISOWN in
any live state (R119) end it; PROBE owes RECEIPT (R92), a duplicate OPEN-REQUEST owes OPEN-ACCEPT and, with E not 0, RECEIPT
(R61); the silent discards of R39 and R57 change nothing. -/
def Obligations.OtherFramesEndOweOrDoNothing : Prop :=
  ∀ (s : State) (l : Line) (f : Frame) (i : Slot) (a : Assoc), s.frameFor l f i a →
    (∀ finalTag, f.body = .close finalTag → a.state.receives = true →
      (finalTag ≠ a.expected → exec (.receiveDispatch l) s =
        .next ((Claim.begin (s.popArrived l)).endAssoc i (.protocol .closeMismatch)).finish) ∧
      (finalTag = a.expected → exec (.receiveDispatch l) s =
        .next ((Claim.begin ((s.popArrived l).handReply a.key.line
          { kind := .closeConfirm, station := a.key.station, an := a.key.an, epoch := a.epoch })).endAssoc i
            (if a.state = .closing then .localClose else .remoteClose)).finish)) ∧
    (f.body.kind = .closeConfirm → a.state = .closing →
      exec (.receiveDispatch l) s = .next ((Claim.begin (s.popArrived l)).endAssoc i .localClose).finish) ∧
    (f.body.kind = .disown →
      exec (.receiveDispatch l) s = .next ((Claim.begin (s.popArrived l)).endAssoc i .disowned).finish) ∧
    (f.body.kind = .probe → a.state.receives = true →
      exec (.receiveDispatch l) s = .next ((s.popArrived l).setAssoc i { a with
        pendingControl := { a.pendingControl with receipt := true } })) ∧
    (f.body.kind = .openRequest → a.state.receives = true →
      exec (.receiveDispatch l) s = .next ((s.popArrived l).setAssoc i { a with
        pendingControl := { a.pendingControl with
          openAccept := true, receipt := a.pendingControl.receipt || decide (a.expected ≠ 0) } })) ∧
    ((a.state = .opening ∧ f.body.kind ∈ [FrameKind.data, .receipt, .probe, .close, .closeConfirm]) ∨
      (a.state = .offered ∧ f.body.kind ∈
        [FrameKind.openRequest, .openAccept, .openRefuse, .data, .receipt, .probe, .close, .closeConfirm]) ∨
      (a.state.receives = true ∧ f.body.kind ∈ [FrameKind.openAccept, .openRefuse]) ∨
      ((a.state = .opened ∨ a.state = .draining) ∧ f.body.kind = .closeConfirm) →
      exec (.receiveDispatch l) s = .next (s.popArrived l))

/-! ### Line transmitters -/

/-- A reply goes out at a begin, from the head of its queue, unless four reply or control frames have gone since the last DATA
frame and data waits (R144, R145, R148). A line that is not free, or has no work, begins nothing (R140). -/
def Obligations.ReplyGoesOutInTurn : Prop :=
  ∀ (s : State) (l : Line),
    (∀ r rest, s.lineFree l → (s.line l).replies = r :: rest → (s.line l).burst ≠ 4 ∨ (∀ i a, ¬ s.owesData l i a) →
      exec (.transmissionBegin l) s = .next (s.setLine l { s.line l with
        replies := rest, burst := if (s.line l).burst < 4 then (s.line l).burst + 1 else (s.line l).burst,
        tx := .sending { kind := r.onWire.1, source := .reply, buffer := none },
        txOut := .transmission (wireImage r.onWire.2) })) ∧
    (¬ s.lineFree l ∨
        ((s.line l).replies = [] ∧ (∀ i a, ¬ s.owesControl l i a) ∧ (∀ i a, ¬ s.owesData l i a)) →
      exec (.transmissionBegin l) s = .next s)

/-- A control frame goes out at a begin when no reply waits: of the association whose turn it is, of the first kind present,
with the fields and the effects on its record of the table (R32, R94, R144, R145, R146, R148). -/
def Obligations.ControlFrameGoesOutInTurn : Prop :=
  ∀ (s : State) (l : Line) (i : Slot) (a : Assoc) (k : ControlKind),
    s.lineFree l → (s.line l).replies = [] → (s.line l).burst ≠ 4 ∨ (∀ j b, ¬ s.owesData l j b) →
    s.owesControl l i a →
    (∀ j b, s.owesControl l j b → turnAfter (s.line l).controlPtr i ≤ turnAfter (s.line l).controlPtr j) →
    a.pendingControl.turnOf k →
    exec (.transmissionBegin l) s = .next ((s.setAssoc i (a.afterControl k)).setLine l { s.line l with
      controlPtr := i, burst := if (s.line l).burst < 4 then (s.line l).burst + 1 else (s.line l).burst,
      tx := .sending { kind := (a.onWire k).1, source := .association i (s.generation i), buffer := none },
      txOut := .transmission (wireImage (a.onWire k).2) })

/-- A DATA frame goes out at a begin when no reply and no control waits, or after four of them: of the sendable association
whose turn it is, for its entry at next-to-send (R70, R129, R144, R145, R147, R148). -/
def Obligations.DataFrameGoesOutInTurn : Prop :=
  ∀ (s : State) (l : Line) (i : Slot) (a : Assoc) (e : SendEntry) (front back : List SendEntry),
    s.lineFree l → (s.line l).burst = 4 ∨ ((s.line l).replies = [] ∧ ∀ j b, ¬ s.owesControl l j b) →
    s.owesData l i a →
    (∀ j b, s.owesData l j b → turnAfter (s.line l).dataPtr i ≤ turnAfter (s.line l).dataPtr j) →
    a.sendQueue = front ++ e :: back → e.tag = a.nextToSend → (∀ x, x ∈ front → x.tag ≠ a.nextToSend) →
    exec (.transmissionBegin l) s = .next ((s.setAssoc i { a with
      nextToSend := a.nextToSend + 1,
      sentMark := if tagDistance a.sendBase a.sentMark < tagDistance a.sendBase (a.nextToSend + 1) then a.nextToSend + 1
        else a.sentMark }).setLine l { s.line l with
          dataPtr := i, burst := 0,
          tx := .sending { kind := .data, source := .association i (s.generation i), buffer := some e.buffer },
          txOut := .transmission (wireImage (s.dataOnWire a e)) })

/-- Completion and cut have the same effects but for the output: the timer of the table of R149 if the slot still holds the
association, the return of a RETIRING buffer with its pass, the transmitter IDLE, and STOPPED if that ends a stop (R120, R129,
R149, R150, R170). An IDLE transmitter has nothing to end (log 1), and the next begin is a command of its own (log 22). -/
def Obligations.TransmissionEnds : Prop :=
  ∀ (s : State) (l : Line),
    ((s.line l).tx = .idle →
      exec (.transmissionCompletion l) s = .next s ∧ exec (.transmissionCut l) s = .next s) ∧
    ∀ (r : TxRecord) (c : Instr) (out : TxOutput) (u v : State), (s.line l).tx = .sending r →
      (c = .transmissionCompletion l ∧ out = .idleFill) ∨ (c = .transmissionCut l ∧ out = .abortPattern) →
      ((∀ i a, ¬ s.sentFor r i a) ∧ u = s) ∨ (∃ i a, s.sentFor r i a ∧ u = s.setAssoc i (a.afterFrame r.kind)) →
      ((∀ b m, r.buffer = some b → s.bufferStateAt b ≠ .retiring m) ∧
          v = u.setLine l { s.line l with tx := .idle, txOut := out }) ∨
        (∃ b m, r.buffer = some b ∧ s.bufferStateAt b = .retiring m ∧
          v = ((u.setPool { s.pool with
            bufferState := s.pool.bufferState.set b .free, freeList := s.pool.freeList ++ [b] }).setLine l
              { s.line l with tx := .idle, txOut := out }).refreshPass) →
      exec c s = .next
        (if s.controller = .stopping ∧ v.lineA.tx = .idle ∧ v.lineB.tx = .idle then { v with controller := .stopped }
         else v)

/-! ### Timers -/

/-- A tick at one timer lowers the remaining ticks of one that counts and may count, and changes nothing else there: association
timers count while the controller is RUNNING and their line ACTIVE, grace timers while it is RUNNING, the holdoff timer always
(R155, R156). A timer takes a tick once, and TICK is the tick at every timer in turn, whatever the phase; the phase starts again
(R153). With an interval of 0 there is none (R159). That TICK does not ask for the phase is log 2; the order of the timers and
the note of a tick that is being taken timer by timer are log 3. -/
def Obligations.TickReachesEveryTimer : Prop :=
  ∀ s : State,
    (s.resetAsserted = true ∨ s.timebase.interval = 0 → ∀ which, exec (.tick which) s = .next s) ∧
    (∀ x, ¬ s.tickOpen x → exec (.tick (some x)) s = .next s) ∧
    (∀ i x, s.assocAt i = none → x = .assocState i ∨ x = .receipt i → s.tickOpen x →
      exec (.tick (some x)) s = .next (s.tickNoted x)) ∧
    (∀ i a x, s.assocAt i = some a → s.tickOpen x →
      (x = .assocState i → a.stateTimer.survives (s.TimersCount a.key.line) →
        exec (.tick (some x)) s = .next ((s.tickNoted x).setAssoc i { a with
          stateTimer := a.stateTimer.afterTick (s.TimersCount a.key.line) })) ∧
      (x = .receipt i → a.receiptTimer.survives (s.TimersCount a.key.line) →
        exec (.tick (some x)) s = .next ((s.tickNoted x).setAssoc i { a with
          receiptTimer := a.receiptTimer.afterTick (s.TimersCount a.key.line) }))) ∧
    (∀ l x, x = .grace l → s.tickOpen x → (s.line l).graceTimer.survives (s.controller = .running) →
      exec (.tick (some x)) s = .next ((s.tickNoted x).setLine l { s.line l with
        graceTimer := (s.line l).graceTimer.afterTick (s.controller = .running) })) ∧
    (s.tickOpen .holdoff → s.attention.holdoffTimer.survives True →
      exec (.tick (some .holdoff)) s = .next ((s.tickNoted .holdoff).setAttention { s.attention with
        holdoffTimer := s.attention.holdoffTimer.afterTick True })) ∧
    (s.resetAsserted = false → s.timebase.interval ≠ 0 →
      (∃ t, t = (([.holdoff, .grace .a, .grace .b] : List TimerName) ++
          allSlots.flatMap fun i => ([.assocState i, .receipt i] : List TimerName)).foldl State.afterTickAt s ∧
        exec (.tick none) s = .next { t with timebase := { t.timebase with taken := none } }) ∧
      (s.timebase.taken = none →
        (∀ i a, s.assocAt i = some a → a.stateTimer.survives (s.TimersCount a.key.line) ∧
          a.receiptTimer.survives (s.TimersCount a.key.line)) →
        (∀ l, (s.line l).graceTimer.survives (s.controller = .running)) → s.attention.holdoffTimer.survives True →
        ∃ t, exec (.tick none) s = .next t ∧
          t = { s with
            timebase := { s.timebase with phase := 0 }, table := t.table,
            lineA := { s.lineA with graceTimer := s.lineA.graceTimer.afterTick (s.controller = .running) },
            lineB := { s.lineB with graceTimer := s.lineB.graceTimer.afterTick (s.controller = .running) },
            attention := { s.attention with holdoffTimer := s.attention.holdoffTimer.afterTick True } } ∧
          ∀ i, t.generation i = s.generation i ∧ (s.assocAt i = none → t.assocAt i = none) ∧
            ∀ a, s.assocAt i = some a → t.assocAt i = some { a with
              stateTimer := a.stateTimer.afterTick (s.TimersCount a.key.line),
              receiptTimer := a.receiptTimer.afterTick (s.TimersCount a.key.line) }))

/-- The expiries that count a retry, in the claim of the tick that is the timer's last (R155): within the limit OPENING owes
OPEN-REQUEST (R45), OPEN and DRAINING go back or owe PROBE (R79, R80), CLOSING owes CLOSE (R81); beyond it the association ends
with NO_RESPONSE (R66). A timer with more ticks, a frozen or stopped one, and one that no tick may reach, as while the interval is
0, does none of this (R156, R159). An expiry row is the tick at that timer alone (log 3), and a row of another state than the
association's changes nothing (log 1). -/
def Obligations.RetryExpiries : Prop :=
  ∀ (s : State) (i : Slot) (a : Assoc) (x : TimerName), s.assocAt i = some a → x = .assocState i →
    (∀ c, (c = .openRetryExpiry i ∧ a.state = .opening) ∨ (c = .resendExpiry i ∧ (a.state = .opened ∨ a.state = .draining)) ∨
        (c = .closeTimerExpiry i ∧ a.state = .closing) →
      (¬ s.tickOpen x ∨ ¬ s.TimersCount a.key.line ∨ a.stateTimer.survives True → exec c s = .next s) ∧
      (s.tickOpen x → s.TimersCount a.key.line → a.stateTimer = .counting 1 →
        exec (.tick (some x)) s = exec c s ∧
        (a.params.retryLimit < a.retryCount + 1 →
          exec c s = .next ((Claim.begin ((s.tickNoted x).setAssoc i { a with
            retryCount := a.retryCount + 1, stateTimer := .stopped })).endAssoc i .noResponse).finish) ∧
        (a.retryCount + 1 ≤ a.params.retryLimit →
          (a.state = .opening → exec c s = .next ((s.tickNoted x).setAssoc i { a with
            retryCount := a.retryCount + 1, stateTimer := .stopped,
            pendingControl := { a.pendingControl with openRequest := true } })) ∧
          (a.state = .closing → exec c s = .next ((s.tickNoted x).setAssoc i { a with
            retryCount := a.retryCount + 1, stateTimer := .stopped,
            pendingControl := { a.pendingControl with close := true } })) ∧
          (a.state = .opened ∨ a.state = .draining → exec c s = .next ((s.tickNoted x).setAssoc i { a with
            retryCount := a.retryCount + 1, stateTimer := .stopped,
            nextToSend := if tagDistance a.sendBase a.nextToSend = 0 then a.nextToSend else a.sendBase,
            pendingControl := { a.pendingControl with
              probe := a.pendingControl.probe || decide a.IsStalled } }))))) ∧
    (a.state ≠ .opening → exec (.openRetryExpiry i) s = .next s) ∧
    (a.state ≠ .opened → a.state ≠ .draining → exec (.resendExpiry i) s = .next s) ∧
    (a.state ≠ .closing → exec (.closeTimerExpiry i) s = .next s)

/-- The other expiries, in the claim of the tick that is the timer's last (R155): the offer ends with OFFER_EXPIRED and OPEN-REFUSE
(R59), the receipt timer owes RECEIPT (R89, R93), the holdoff sets the indicator (R185). A timer with more ticks, a frozen or
stopped one, and one that no tick may reach, as while the interval is 0, does none of this (R156, R159). An expiry row is the
tick at that timer alone (log 3), and a row of another state than the association's changes nothing (log 1). -/
def Obligations.OtherExpiries : Prop :=
  (∀ (s : State) (i : Slot) (a : Assoc), s.assocAt i = some a →
    (∀ x, x = .assocState i →
      (¬ s.tickOpen x ∨ ¬ s.TimersCount a.key.line ∨ a.stateTimer.survives True ∨ a.state ≠ .offered →
        exec (.offerExpiry i) s = .next s) ∧
      (s.tickOpen x → s.TimersCount a.key.line → a.stateTimer = .counting 1 → a.state = .offered →
        exec (.tick (some x)) s = exec (.offerExpiry i) s ∧
        exec (.offerExpiry i) s = .next ((Claim.begin ((s.tickNoted x).handReply a.key.line
          { kind := .openRefuse .offerExpired, station := a.key.station, an := a.key.an, epoch := a.epoch })).endAssoc i
            .offerExpired).finish)) ∧
    (∀ x, x = .receipt i →
      (¬ s.tickOpen x ∨ ¬ s.TimersCount a.key.line ∨ a.receiptTimer.survives True ∨ a.state.receives = false →
        exec (.receiptTimerExpiry i) s = .next s) ∧
      (s.tickOpen x → s.TimersCount a.key.line → a.receiptTimer = .counting 1 → a.state.receives = true →
        exec (.tick (some x)) s = exec (.receiptTimerExpiry i) s ∧
        exec (.receiptTimerExpiry i) s = .next ((s.tickNoted x).setAssoc i { a with
          receiptTimer := .stopped, pendingControl := { a.pendingControl with receipt := true } })))) ∧
  (∀ s : State,
    (¬ s.tickOpen .holdoff ∨ s.attention.holdoffTimer.survives True → exec .holdoffExpiry s = .next s) ∧
    (s.tickOpen .holdoff → s.attention.holdoffTimer = .counting 1 →
      exec (.tick (some .holdoff)) s = exec .holdoffExpiry s ∧
      exec .holdoffExpiry s = .next ((s.tickNoted .holdoff).setAttention { s.attention with
        holdoffTimer := .stopped, indicator := true })))

/-! ### Lines and controller -/

/-- Carrier loss on an ACTIVE line suspends it, arms its grace timer, gives up the frame being received, raises SUSPENDED and
cuts the frame being sent (R29, R150, R163; one command, log 5); carrier return makes a SUSPENDED or DOWN line ACTIVE and
raises RESTORED (R164); an enable in DISABLED gives ACTIVE or DOWN by the carrier level (R162). In the other line states only
the level changes, or nothing. A return or an enable does not take the transmission begin that it allows (log 22). -/
def Obligations.CarrierAndEnableMoveTheLine : Prop :=
  ∀ (s : State) (l : Line),
    ((s.line l).state = .active → ∃ t u, exec (.carrierLoss l) s = .next t ∧ exec (.transmissionCut l) u = .next t ∧
      u = (s.setLine l { s.line l with
        carrier := false, state := .suspended, graceTimer := .counting (s.line l).grace, rx := .hunting 0,
        tallies := if (s.line l).rx.inFrame then (s.line l).tallies.bump .check else (s.line l).tallies }).raiseLine l
          .suspended) ∧
    ((s.line l).state ≠ .active →
      exec (.carrierLoss l) s = .next (s.setLine l { s.line l with carrier := false })) ∧
    ((s.line l).state = .suspended ∨ (s.line l).state = .down →
      exec (.carrierReturn l) s = .next ((s.setLine l { s.line l with
        carrier := true, state := .active, graceTimer := .stopped, rx := .hunting 0 }).raiseLine l .restored)) ∧
    ((s.line l).state = .disabled ∨ (s.line l).state = .active →
      exec (.carrierReturn l) s = .next (s.setLine l { s.line l with carrier := true })) ∧
    (s.resetAsserted = false → (s.line l).state = .disabled →
      exec (.lineEnable l) s = .next (s.setLine l { s.line l with
        state := if (s.line l).carrier then .active else .down, rx := .hunting 0 })) ∧
    (s.resetAsserted = false → (s.line l).state ≠ .disabled → exec (.lineEnable l) s = .next s)

/-- A line that goes DOWN at its grace expiry (R165) or is disabled (R166) ends each of its live associations, empties its reply
queue and burst count, and leaves the other line and the other associations as they were, but for credit that a pass may raise.
A grace timer with more ticks, a stopped or frozen one, and one that no tick may reach, does not expire (R156, R159; the expiry
row is the tick at that timer alone, log 3, and a row whose event cannot occur changes nothing, log 1). The cut of a frame being
sent follows a disable (log 5). -/
def Obligations.LostLineEndsItsAssociations : Prop :=
  ∀ (s : State) (l : Line),
    (s.tickOpen (.grace l) → (s.line l).state = .suspended → (s.line l).graceTimer = .counting 1 → s.controller = .running →
      ∃ t, exec (.graceExpiry l) s = .next t ∧ exec (.tick (some (.grace l))) s = .next t ∧
        t.timebase = (s.tickNoted (.grace l)).timebase ∧
        s.LineLost l .lineDown (if (s.line l).reasons = .empty then [.line l] else []) t ∧
        t.line l = { s.line l with
          state := .down, graceTimer := .stopped, replies := [], burst := 0,
          reasons := { (s.line l).reasons with down := true } }) ∧
    ((s.line l).state ≠ .disabled → s.resetAsserted = false →
      ∃ t u, exec (.lineDisable l) s = .next t ∧ exec (.transmissionCut l) u = .next t ∧
        s.LineLost l .lineDisabled [] u ∧
        u.line l = { s.line l with
          state := .disabled, graceTimer := .stopped, replies := [], burst := 0, rx := .hunting 0,
          tallies := if (s.line l).rx.inFrame then (s.line l).tallies.bump .check else (s.line l).tallies }) ∧
    (¬ s.tickOpen (.grace l) ∨ (s.line l).state ≠ .suspended ∨ s.controller ≠ .running ∨
      (s.line l).graceTimer.survives True → exec (.graceExpiry l) s = .next s) ∧
    ((s.line l).state = .disabled → exec (.lineDisable l) s = .next s)

/-- START makes the controller RUNNING (R169); STOP in RUNNING makes it STOPPING, or STOPPED when no frame is in flight (R170);
START and STOP together, or neither, do nothing (R169). CLEAR in STOPPED with the mailbox IDLE empties table, pool, queues
and attention list and keeps the rest (R172); any other CLEAR request sets CLEAR_REFUSED alone (R171). That START changes the
controller alone, and leaves the begins that R169 lists to commands of their own, is the model's reading (log 22). -/
def Obligations.ControllerRequests : Prop :=
  ∀ s : State, s.resetAsserted = false →
    exec .start s = .next { s with controller := .running } ∧
    (s.controller = .running → s.lineA.tx = .idle ∧ s.lineB.tx = .idle →
      exec .stop s = .next { s with controller := .stopped }) ∧
    (s.controller = .running → s.lineA.tx ≠ .idle ∨ s.lineB.tx ≠ .idle →
      exec .stop s = .next { s with controller := .stopping }) ∧
    (s.controller ≠ .running → exec .stop s = .next s) ∧
    (∀ lanes, exec (.registerWrite 0 lanes 0x00000003) s = .next s ∧
      exec (.registerWrite 0 lanes 0x00000000) s = .next s) ∧
    (∀ withStart withStop,
      withStart = true ∨ withStop = true ∨ s.controller ≠ .stopped ∨ s.mailbox.latched ≠ none →
      exec (.clear withStart withStop) s = .next { s with flags := { s.flags with clearRefused := true } }) ∧
    (s.controller = .stopped → s.mailbox.latched = none → ∃ t, exec (.clear false false) s = .next t ∧
      (∀ i, t.generation i = s.generation i ∧ t.assocAt i = none) ∧
      (∀ n, t.listenAt n = { s.listenAt n with admitted := 0 }) ∧
      (∀ b, t.bufferStateAt b = .free) ∧ t.pool.freeList.map (·.val) = List.range 128 ∧
      t.pool = { s.pool with
        bufferState := t.pool.bufferState, freeList := t.pool.freeList, reserved := 0, refreshPtr := 63 } ∧
      (∀ l, t.line l = { s.line l with
        reasons := .empty, replies := [], tx := .idle, controlPtr := 63, dataPtr := 63, burst := 0 }) ∧
      t = { s with
        table := t.table, addressMap := [], listen := t.listen, pool := t.pool, lineA := t.lineA, lineB := t.lineB,
        attention := { s.attention with list := [], holding := none, holdoffTimer := .stopped, indicator := false } })

/-! ### Mailbox commands -/

/-- The row of a latched command completes it: the mailbox becomes IDLE with a code, the parameter registers stay, and under any
code but OK nothing else changes (R176, R178). Without that command latched the completion does not occur (log 8). A latched
code that names no command completes with BAD_COMMAND (R177). -/
def Obligations.MailboxCommandsComplete : Prop :=
  (∀ (c : Instr) (code : Byte) (s : State), mailboxCode c = some code →
    (∀ p, s.latches code p → ∃ t result, exec c s = .next t ∧ t.mailbox.latched = none ∧
      t.mailbox.completion = some result ∧ t.mailbox.params = s.mailbox.params ∧
      (result ≠ .ok → t = { s with mailbox := { s.mailbox with latched := none, completion := some result } })) ∧
    ((∀ p, ¬ s.latches code p) → exec c s = .next s)) ∧
  (∀ (s : State) (m : Latched), s.mailbox.latched = some m →
    (m.code ∉ ([0x10, 0x11, 0x12, 0x20, 0x21, 0x22, 0x23, 0x30, 0x31, 0x32, 0x33, 0x40, 0x41, 0x50, 0x51, 0x52] : List Byte) →
      exec .cmdBad s = .next { s with mailbox := { s.mailbox with latched := none, completion := some .badCommand } }) ∧
    (m.code ∈ ([0x10, 0x11, 0x12, 0x20, 0x21, 0x22, 0x23, 0x30, 0x31, 0x32, 0x33, 0x40, 0x41, 0x50, 0x51, 0x52] : List Byte) →
      exec .cmdBad s = .next s))

/-- The tests of the commands that take a handle: STALE for one that is not current, then, a buffer number of SUBMIT in range,
STATE in the states in which the command is not taken (R5, R21, R56, R58, R67, R99, R100, R101, R107, R115, R121, R177). -/
def Obligations.HandleIsTestedBeforeState : Prop :=
  ∀ (c : Instr) (code : Byte) (s : State) (p : Vector Word 6), c ∈ handleCommands → mailboxCode c = some code →
    s.latches code p →
    (s.stale p[0] → exec c s = .next (s.complete .stale)) ∧
    (∀ i a, s.names p[0] i a → refusedIn c a.state = true → (c = .cmdSubmit → fieldNat p[1] 0 8 < 128) →
      exec c s = .next (s.complete .state))

/-- OPEN, SET-LISTEN and ABORT-GROUP read the fields of their parameter words and take them exactly when each is in its range;
GET-LISTEN returns the words P1 to P3 that set the entry (R8, R42, R49, R63, R64, R117, R189). -/
def Obligations.OperandsAreTheFieldsOfTheWords : Prop :=
  ∀ p : Vector Word 6,
    (∀ (k : Key) (ps : Params), openOperands p = some (k, ps) ↔
      fieldNat p[0] 0 2 = (if k.line = .a then 1 else 2) ∧ fieldNat p[0] 8 8 = k.station.toNat ∧ fieldNat p[0] 16 8 = k.an.toNat ∧
      fieldNat p[1] 0 8 = ps.inboundLimit ∧ fieldNat p[1] 8 8 = ps.window ∧ fieldNat p[1] 16 8 = ps.sendQueueLimit ∧
      fieldNat p[1] 24 8 = ps.inboundQuota ∧ fieldNat p[2] 0 8 = ps.resendPeriod ∧ fieldNat p[2] 8 8 = ps.retryLimit ∧
      fieldNat p[2] 16 8 = ps.receiptDelay ∧ 1 ≤ k.station.toNat ∧ k.station.toNat ≤ 62 ∧ ps.inRange = true) ∧
    (∀ (l : Line) (value mask : Station), groupOperands p = some (l, value, mask) ↔
      fieldNat p[0] 0 2 = (if l = .a then 1 else 2) ∧ fieldNat p[0] 8 8 = value.toNat ∧ fieldNat p[0] 16 8 = mask.toNat) ∧
    (∀ (n : ListenNo) (e : ListenEntry), listenOperands p = some (n, e) ↔
      fieldNat p[0] 0 8 = n.val ∧ p[0].getLsbD 8 = e.enabled ∧ (p[0].getLsbD 9 = true ↔ e.mode = .ask) ∧
      fieldNat p[0] 12 2 = (if e.line = .a then 1 else 2) ∧ fieldNat p[0] 24 8 = e.offerTimeout ∧ 1 ≤ e.offerTimeout ∧
      fieldNat p[1] 0 8 = e.stationValue.toNat ∧ fieldNat p[1] 8 8 = e.stationMask.toNat ∧
      fieldNat p[1] 16 8 = e.anValue.toNat ∧ fieldNat p[1] 24 8 = e.anMask.toNat ∧
      fieldNat p[2] 0 8 = e.admissionLimit ∧ e.admissionLimit ≤ 63 ∧ fieldNat p[2] 8 8 = e.params.inboundLimit ∧
      fieldNat p[2] 16 8 = e.params.window ∧ fieldNat p[2] 24 8 = e.params.sendQueueLimit ∧
      fieldNat p[3] 0 8 = e.params.inboundQuota ∧ fieldNat p[3] 8 8 = e.params.resendPeriod ∧
      fieldNat p[3] 16 8 = e.params.retryLimit ∧ fieldNat p[3] 24 8 = e.params.receiptDelay ∧
      e.params.inRange = true ∧ e.admitted = 0) ∧
    (∀ (n : ListenNo) (e : ListenEntry), listenOperands p = some (n, e) → ∀ k, k ≤ 64 →
      (listenWords { e with admitted := k })[1] = p[1] ∧ (listenWords { e with admitted := k })[2] = p[2] ∧
      (listenWords { e with admitted := k })[3] = p[3] ∧
      fieldNat (listenWords { e with admitted := k })[0] 16 8 = k ∧
      (listenWords { e with admitted := k })[0].getLsbD 8 = e.enabled ∧
      ((listenWords { e with admitted := k })[0].getLsbD 9 = true ↔ e.mode = .ask) ∧
      fieldNat (listenWords { e with admitted := k })[0] 12 2 = (if e.line = .a then 1 else 2) ∧
      fieldNat (listenWords { e with admitted := k })[0] 24 8 = e.offerTimeout)

/-- OPEN: its tests in order (R42), then the association in the lowest FREE slot, with generation, epoch, parameters, initial G
and the OPEN-REQUEST it owes, and the handle that names it (R4, R6, R7, R43, R134). -/
def Obligations.OpenCommand : Prop :=
  ∀ (s : State) (p : Vector Word 6), s.latches 0x10 p →
    (openOperands p = none → exec .cmdOpen s = .next (s.complete .badParameter)) ∧
    ∀ k ps, openOperands p = some (k, ps) →
      ((s.line k.line).state = .disabled ∨ (s.line k.line).state = .down →
        exec .cmdOpen s = .next (s.complete .line)) ∧
      ((s.line k.line).state = .active ∨ (s.line k.line).state = .suspended →
        ((∃ i, s.lookup k = some i) → exec .cmdOpen s = .next (s.complete .inUse)) ∧
        (s.lookup k = none → (∀ i, s.assocAt i ≠ none) → exec .cmdOpen s = .next (s.complete .tableFull)) ∧
        (∀ i, s.lookup k = none → s.lowestFree i → ∃ t h a, exec .cmdOpen s = .next t ∧ t.names h i a ∧
          t.mailbox = { s.mailbox with latched := none, completion := some .ok, results := #v[h, 0, 0, 0] } ∧
          t.generation i = s.generation i + 1 ∧
          a = { state := .opening, key := k, epoch := BitVec.ofNat 8 ((s.generation i + 1).toNat % 255 + 1),
                origin := .host, params := ps, outboundLimit := none, offerTimeout := none, sendQueue := [], sendBase := 0,
                nextToSend := 0, sentMark := 0, submitTag := 0, peerLimit := 0, retryCount := 0, abandoned := 0,
                inboundQueue := [], expected := 0, grant := min ps.inboundQuota s.available, advertised := 0,
                hold := false, stateTimer := .stopped, receiptTimer := .stopped,
                pendingControl := ⟨false, true, false, false, false⟩,
                reasons := ⟨false, false, false, false, false⟩ } ∧
          (∀ j, j ≠ i → t.generation j = s.generation j ∧ (s.assocAt j = none → t.assocAt j = none) ∧
            ∀ b, s.assocAt j = some b → ∃ g x,
              t.assocAt j = some { b with grant := g, pendingControl := { b.pendingControl with receipt := x } }) ∧
          t.addressMap = s.addressMap ++ [{ key := k, slot := i }] ∧ t.listen = s.listen ∧
          (∀ l, t.line l = s.line l) ∧ t.attention = s.attention ∧ t.pool.freeList = s.pool.freeList ∧
          t.pool.bufferState = s.pool.bufferState))

/-- ACCEPT opens an offered association with its initial G and the OPEN-ACCEPT it owes (R56, R134; RECEIPT with the first raise
is R96 as log 14 reads it); REFUSE hands OPEN-REFUSE and ends it with REFUSED_LOCAL (R58). -/
def Obligations.OfferDecisions : Prop :=
  ∀ (s : State) (p : Vector Word 6) (i : Slot) (a : Assoc), s.names p[0] i a → a.state = .offered →
    (s.latches 0x11 p → ∀ n, n = min a.params.inboundQuota s.available → ∃ t, exec .cmdAccept s = .next t ∧
      t.assocAt i = some { a with
        state := .opened, stateTimer := .stopped, retryCount := 0, grant := a.grant + n,
        pendingControl := { a.pendingControl with
          openAccept := true,
          receipt := a.pendingControl.receipt || (decide (0 < n) &&
            decide (1 ≤ tagDistance a.advertised (a.expected + BitVec.ofNat 8 (a.grant + n)) ∧
              tagDistance a.advertised (a.expected + BitVec.ofNat 8 (a.grant + n)) ≤ 127)) },
        reasons := { a.reasons with opened := true } } ∧
      t.generation i = s.generation i ∧
      (∀ j, j ≠ i → t.generation j = s.generation j ∧ (s.assocAt j = none → t.assocAt j = none) ∧
        ∀ b, s.assocAt j = some b → ∃ g x,
          t.assocAt j = some { b with grant := g, pendingControl := { b.pendingControl with receipt := x } }) ∧
      t.mailbox = { s.mailbox with latched := none, completion := some .ok, results := #v[0, 0, 0, 0] } ∧
      t.attention = (if a.reasons = .empty then s.attention.join (.slot i) else s.attention) ∧
      (∀ l, t.line l = s.line l) ∧ t.addressMap = s.addressMap ∧ t.listen = s.listen ∧
      t.pool.freeList = s.pool.freeList ∧ t.pool.bufferState = s.pool.bufferState) ∧
    (s.latches 0x12 p → ∃ u, u = ((Claim.begin (s.handReply a.key.line
        { kind := .openRefuse .refusedByHost, station := a.key.station, an := a.key.an, epoch := a.epoch })).endAssoc i
          .refusedLocal).finish ∧
      exec .cmdRefuse s = .next { u with mailbox := { s.mailbox with
        latched := none, completion := some .ok, results := #v[0, 0, 0, 0] } })

/-- SUBMIT: its tests in order (R67), then the entry at the tail with the submit tag, the buffer OUTBOUND, and the resend timer
armed where this stalls the association (R10, R68, R72). TAKE: EMPTY, or the head message, its buffer HOST, and a pass
(R101, R133). -/
def Obligations.DataCommands : Prop :=
  ∀ (s : State) (p : Vector Word 6) (i : Slot) (a : Assoc), s.names p[0] i a →
    (s.latches 0x20 p →
      (128 ≤ fieldNat p[1] 0 8 → exec .cmdSubmit s = .next (s.complete .badParameter)) ∧
      ∀ b : BufferNo, fieldNat p[1] 0 8 = b.val → a.state = .opened →
        (∀ n, n = fieldNat p[1] 16 8 →
          (n = 0 ∨ a.outboundLimit.getD 0 < n → exec .cmdSubmit s = .next (s.complete .badParameter)) ∧
          (1 ≤ n → n ≤ a.outboundLimit.getD 0 →
            (s.bufferStateAt b ≠ .host → exec .cmdSubmit s = .next (s.complete .notOwner)) ∧
            (s.bufferStateAt b = .host → a.params.sendQueueLimit ≤ a.sendQueue.length →
              exec .cmdSubmit s = .next (s.complete .queueFull)) ∧
            (s.bufferStateAt b = .host → a.sendQueue.length < a.params.sendQueueLimit → ∃ a1,
              a1 = { a with
                sendQueue := a.sendQueue ++ [{ tag := a.submitTag, buffer := b, length := n }],
                submitTag := a.submitTag + 1 } ∧
              exec .cmdSubmit s = .next (((s.setPool { s.pool with
                bufferState := s.pool.bufferState.set b .outbound }).setAssoc i
                  (if ¬ a.IsStalled ∧ a1.IsStalled then
                    { a1 with stateTimer := .counting a.params.resendPeriod } else a1)).completeOk
                      #v[a.submitTag.setWidth 32, 0, 0, 0]))))) ∧
    (s.latches 0x21 p → a.state ≠ .opening → a.state ≠ .offered →
      (a.inboundQueue = [] → exec .cmdTake s = .next (s.complete .empty)) ∧
      ∀ e rest, a.inboundQueue = e :: rest →
        exec .cmdTake s = .next ((((s.setAssoc i { a with inboundQueue := rest }).setPool { s.pool with
          bufferState := s.pool.bufferState.set e.buffer .host }).refreshPass).completeOk
            #v[BitVec.ofNat 32 e.buffer.val, BitVec.ofNat 32 (e.length % 256), 0, 0]))

/-- HOLD sets the hold flag (R99), RESUME clears it and runs a pass (R100), CLOSE moves OPEN to CLOSING with CLOSE pending, or to
DRAINING while entries remain (R107). -/
def Obligations.HoldResumeAndClose : Prop :=
  ∀ (s : State) (p : Vector Word 6) (i : Slot) (a : Assoc), s.names p[0] i a →
    (s.latches 0x22 p → a.state = .opening ∨ a.state = .opened ∨ a.state = .draining ∨ a.state = .closing →
      exec .cmdHold s = .next ((s.setAssoc i { a with hold := true }).completeOk #v[0, 0, 0, 0])) ∧
    (s.latches 0x23 p → a.state = .opening ∨ a.state = .opened ∨ a.state = .draining ∨ a.state = .closing →
      exec .cmdResume s = .next ((s.setAssoc i { a with hold := false }).refreshPass.completeOk #v[0, 0, 0, 0])) ∧
    (s.latches 0x30 p → a.state = .opened →
      (a.sendQueue ≠ [] →
        exec .cmdClose s = .next ((s.setAssoc i { a with state := .draining }).completeOk #v[0, 0, 0, 0])) ∧
      (a.sendQueue = [] → exec .cmdClose s = .next ((s.setAssoc i { a with
        state := .closing, pendingControl := { a.pendingControl with close := true }, retryCount := 0,
        stateTimer := .stopped }).completeOk #v[0, 0, 0, 0])))

/-- ABORT ends a live association with LOCAL_ABORT after handing DISOWN, or OPEN-REFUSE from OFFERED (R115); RELEASE returns the
inbound buffers, takes the slot off the attention list and leaves it FREE with its generation (R121). -/
def Obligations.AbortAndRelease : Prop :=
  ∀ (s : State) (p : Vector Word 6) (i : Slot) (a : Assoc), s.names p[0] i a →
    (s.latches 0x31 p → a.state.isLive = true → ∃ u, u = ((Claim.begin (s.handReply a.key.line
        { kind := if a.state = .offered then .openRefuse .refusedByHost else .disown,
          station := a.key.station, an := a.key.an, epoch := a.epoch })).endAssoc i .localAbort).finish ∧
      exec .cmdAbort s = .next { u with mailbox := { s.mailbox with
        latched := none, completion := some .ok, results := #v[0, 0, 0, 0] } }) ∧
    (s.latches 0x33 p → a.state.isLive = false → ∃ t, exec .cmdRelease s = .next t ∧
      t.assocAt i = none ∧ t.generation i = s.generation i ∧
      (∀ j, j ≠ i → t.generation j = s.generation j ∧ (s.assocAt j = none → t.assocAt j = none) ∧
        ∀ b, s.assocAt j = some b → ∃ g x,
          t.assocAt j = some { b with grant := g, pendingControl := { b.pendingControl with receipt := x } }) ∧
      t.pool.freeList = s.pool.freeList ++ a.inboundQueue.map (·.buffer) ∧
      (∀ b, t.bufferStateAt b = if b ∈ a.inboundQueue.map (·.buffer) then .free else s.bufferStateAt b) ∧
      t.attention = (if s.attention.list.filter (fun x => x ≠ .slot i) = [] ∧ s.attention.list ≠ [] then
          { s.attention with list := [], holdoffTimer := .stopped, indicator := false }
        else { s.attention with list := s.attention.list.filter fun x => x ≠ .slot i }) ∧
      t.mailbox = { s.mailbox with latched := none, completion := some .ok, results := #v[0, 0, 0, 0] } ∧
      (∀ l, t.line l = s.line l) ∧ t.addressMap = s.addressMap ∧ t.listen = s.listen)

/-- ABORT-GROUP: BAD_PARAMETER, LINE on a DISABLED line, else it ends each live association of the line that agrees with value
and mask, handing their replies in slot order, and returns their number (R115, R117, R118). -/
def Obligations.AbortGroupCommand : Prop :=
  ∀ (s : State) (p : Vector Word 6), s.latches 0x32 p →
    (groupOperands p = none → exec .cmdAbortGroup s = .next (s.complete .badParameter)) ∧
    ∀ l value mask, groupOperands p = some (l, value, mask) →
      ((s.line l).state = .disabled → exec .cmdAbortGroup s = .next (s.complete .line)) ∧
      ((s.line l).state ≠ .disabled → ∃ t, exec .cmdAbortGroup s = .next t ∧
        (∀ i a, s.assocAt i = some a → a.OfGroup l value mask → t.assocAt i = some { a with
          state := .ended .localAbort, grant := 0, sendQueue := [], abandoned := a.abandoned + a.sendQueue.length,
          pendingControl := .empty, stateTimer := .stopped, receiptTimer := .stopped,
          reasons := { a.reasons with ended := true } }) ∧
        (∀ i a, s.assocAt i = some a → ¬ a.OfGroup l value mask → ∃ g x,
          t.assocAt i = some { a with grant := g, pendingControl := { a.pendingControl with receipt := x } }) ∧
        (∀ i, t.generation i = s.generation i ∧ (s.assocAt i = none → t.assocAt i = none)) ∧
        t.line l = ((allSlots.filterMap fun i => (s.assocAt i).bind fun a =>
          if a.OfGroup l value mask then
            some { kind := if a.state = .offered then .openRefuse .refusedByHost else .disown,
                   station := a.key.station, an := a.key.an, epoch := a.epoch : Reply }
          else none).foldl (fun u r => u.handReply l r) s).line l ∧
        (∀ m, m ≠ l → t.line m = s.line m) ∧
        t.attention.list = s.attention.list ++ (allSlots.filter fun i => (s.assocAt i).elim false fun a =>
          decide (a.OfGroup l value mask) && decide (a.reasons = .empty)).map Source.slot ∧
        t.mailbox = { s.mailbox with
          latched := none, completion := some .ok,
          results := #v[BitVec.ofNat 32 (allSlots.filter fun i => (s.assocAt i).elim false fun a =>
            decide (a.OfGroup l value mask)).length, 0, 0, 0] })

/-- ALLOCATE takes the head of the free list unless all its buffers are reserved (R127); FREE returns a HOST buffer to the tail,
with a pass (R128); QUERY returns the fields of a slot and changes nothing (R25); SET-LISTEN stores an entry and keeps its
admitted count (R63); GET-LISTEN returns an entry and changes nothing (R64). The numbers of line, state,
origin, end cause, detail and completion code are those of R189. -/
def Obligations.BufferAndTableCommands : Prop :=
  ∀ (s : State) (p : Vector Word 6),
    (s.latches 0x40 p →
      (s.pool.freeList.length ≤ s.pool.reserved → exec .cmdAllocate s = .next (s.complete .noBuffer)) ∧
      ∀ b rest, s.pool.freeList = b :: rest → s.pool.reserved < s.pool.freeList.length →
        exec .cmdAllocate s = .next ((s.setPool { s.pool with
          bufferState := s.pool.bufferState.set b .host, freeList := rest }).completeOk
            #v[BitVec.ofNat 32 b.val, 0, 0, 0])) ∧
    (s.latches 0x41 p →
      (128 ≤ fieldNat p[0] 0 8 → exec .cmdFree s = .next (s.complete .badParameter)) ∧
      ∀ b : BufferNo, fieldNat p[0] 0 8 = b.val →
        (s.bufferStateAt b ≠ .host → exec .cmdFree s = .next (s.complete .notOwner)) ∧
        (s.bufferStateAt b = .host → exec .cmdFree s = .next ((s.setPool { s.pool with
          bufferState := s.pool.bufferState.set b .free,
          freeList := s.pool.freeList ++ [b] }).refreshPass.completeOk #v[0, 0, 0, 0]))) ∧
    (s.latches 0x50 p →
      (64 ≤ fieldNat p[0] 0 8 → exec .cmdQuery s = .next (s.complete .badParameter)) ∧
      ∀ i : Slot, fieldNat p[0] 0 8 = i.val → ∃ q : Vector Word 4, exec .cmdQuery s = .next (s.completeOk q) ∧
        q[0].extractLsb' 0 16 = s.generation i ∧
        (s.assocAt i = none → fieldNat q[0] 16 16 = 0 ∧ q[1] = 0 ∧ q[2] = 0 ∧ q[3] = 0) ∧
        ∀ a, s.assocAt i = some a →
          stateNumber a.state (fieldNat q[0] 16 3) ∧ fieldNat q[0] 20 2 = (if a.key.line = .a then 1 else 2) ∧
          (a.origin = .host → fieldNat q[0] 24 4 = 1) ∧ (∀ n, a.origin = .listen n → fieldNat q[0] 24 4 = 8 + n.val) ∧
          (a.state.isLive = true → fieldNat q[0] 28 4 = 0 ∧ fieldNat q[1] 24 8 = 0) ∧
          (∀ cause, a.state = .ended cause → (cause, fieldNat q[0] 28 4, fieldNat q[1] 24 8) ∈ endNumbers) ∧
          fieldNat q[1] 0 8 = a.key.station.toNat ∧ fieldNat q[1] 8 4 = a.key.an.toNat ∧
          q[1].extractLsb' 16 8 = a.epoch ∧
          (a.sendQueue.length ≤ 32 → fieldNat q[2] 0 6 = a.sendQueue.length) ∧
          (a.inboundQueue.length ≤ 15 → fieldNat q[2] 8 4 = a.inboundQueue.length) ∧
          (a.grant ≤ 15 → fieldNat q[2] 12 4 = a.grant) ∧
          q[2].extractLsb' 16 8 = a.sendBase ∧ q[2].extractLsb' 24 8 = a.nextToSend ∧
          q[3].extractLsb' 0 8 = a.expected ∧ q[3].extractLsb' 8 8 = a.peerLimit ∧
          (a.retryCount ≤ 16 → fieldNat q[3] 16 5 = a.retryCount) ∧
          (a.abandoned ≤ 32 → fieldNat q[3] 24 6 = a.abandoned) ∧ q[3].getLsbD 31 = a.hold) ∧
    (s.latches 0x51 p →
      (listenOperands p = none → exec .cmdSetListen s = .next (s.complete .badParameter)) ∧
      ∀ n e, listenOperands p = some (n, e) →
        exec .cmdSetListen s = .next ((s.setListen n { e with admitted := (s.listenAt n).admitted }).completeOk
          #v[0, 0, 0, 0])) ∧
    (s.latches 0x52 p →
      (8 ≤ fieldNat p[0] 0 8 → exec .cmdGetListen s = .next (s.complete .badParameter)) ∧
      ∀ n : ListenNo, fieldNat p[0] 0 8 = n.val →
        exec .cmdGetListen s = .next (s.completeOk (listenWords (s.listenAt n)))) ∧
    (s.mailbox.completion, fieldNat (s.readReg .mailboxStatus) 8 8) ∈ completionNumbers ∧
    ((s.readReg .mailboxStatus).getLsbD 0 = true ↔ s.mailbox.latched ≠ none)

/-! ### Credit -/

/-- A refresh pass raises waiting associations in turn from the slot after the refresh pointer, each by what it waits for, while
units are available; the pointer moves to the last slot raised; G and the reserved count rise together, and RECEIPT is owed
where E+G passes the last advertised limit; nothing else changes (R95, R96, R132, R135). A claim ends with one pass exactly when
it holds a trigger (R133); the pass of a creation or of ACCEPT raises that association first, by its quota or by what is
available, and goes on as an ordinary pass with what remains (R134). That this first raise too owes RECEIPT in OPEN is R96 read
literally, against the examples of 3.9 and 8.7 (log 14). -/
def Obligations.RefreshPassSharesTheCredit : Prop :=
  (∀ c : Claim,
    (c.served = none → c.finish = if c.trigger then c.st.refreshPass else c.st) ∧
    ∀ i a n, c.served = some i → c.st.assocAt i = some a →
      n = min a.params.inboundQuota (c.st.pool.freeList.length - (c.st.pool.reserved + c.st.pool.hostFloor)) →
      ∃ u, c.finish = u.refreshPass ∧ (n = 0 → u = c.st) ∧
        (n ≠ 0 → u = (c.st.setAssoc i { a with
          grant := a.grant + n,
          pendingControl := { a.pendingControl with
            receipt := a.pendingControl.receipt || (a.state.receives &&
              decide (1 ≤ tagDistance a.advertised (a.expected + BitVec.ofNat 8 (a.grant + n)) ∧
                tagDistance a.advertised (a.expected + BitVec.ofNat 8 (a.grant + n)) ≤ 127)) } }).setPool
            { c.st.pool with reserved := c.st.pool.reserved + n })) ∧
  ∀ s : State, ∃ (t : State) (n : Slot → Nat), s.refreshPass = t ∧
    t = { s with
      table := t.table,
      pool := { s.pool with reserved := t.pool.reserved, refreshPtr := t.pool.refreshPtr } } ∧
    (∀ i, t.generation i = s.generation i ∧ (s.assocAt i = none → n i = 0 ∧ t.assocAt i = none)) ∧
    (∀ i a w, s.assocAt i = some a →
      w = (if a.state.credits = true ∧ a.hold = false then a.params.inboundQuota - a.inboundQueue.length - a.grant else 0) →
      n i ≤ w ∧
      t.assocAt i = some (if n i = 0 then a else { a with
        grant := a.grant + n i,
        pendingControl := { a.pendingControl with
          receipt := a.pendingControl.receipt || (a.state.receives &&
            decide (1 ≤ tagDistance a.advertised (a.expected + BitVec.ofNat 8 (a.grant + n i)) ∧
              tagDistance a.advertised (a.expected + BitVec.ofNat 8 (a.grant + n i)) ≤ 127)) } }) ∧
      (n i < w → (allSlots.map n).sum = s.pool.freeList.length - (s.pool.reserved + s.pool.hostFloor)) ∧
      (n i < w → ∀ j, turnAfter s.pool.refreshPtr i < turnAfter s.pool.refreshPtr j → n j = 0)) ∧
    t.pool.reserved = s.pool.reserved + (allSlots.map n).sum ∧
    (allSlots.map n).sum ≤ s.pool.freeList.length - (s.pool.reserved + s.pool.hostFloor) ∧
    ((∀ i, n i = 0) → t.pool.refreshPtr = s.pool.refreshPtr) ∧
    (∀ i, n i ≠ 0 → (∀ j, turnAfter s.pool.refreshPtr i < turnAfter s.pool.refreshPtr j → n j = 0) →
      t.pool.refreshPtr = i)

/-! ### Register window and attention -/

/-- Writes of the registers: a command is taken in IDLE with the parameters as they stand, an overrun in BUSY (R174); a parameter
register takes the bytes written (R175, R187); select (R136), line grace (R167), fault flags (R180), tallies (R35), tick
interval (R153; a tick that is being taken timer by timer is over before it, R159, log 3), host floor with its pass (R131) and
notification settings (R184) take their values as their rules say. A write of part of a register changes only the bytes
written, and a request register takes the bytes it does not write as 0 (R187; log 11 for the host floor and for what the merged
value means, log 9 for no lane at all). Every other word ignores a write (R187, R188). START and an enable take no begin
themselves (log 22). -/
def Obligations.RegisterWritesTakeEffect : Prop :=
  ∀ (s : State) (v : Word), s.resetAsserted = false →
    (s.mailbox.latched = none → exec (.registerWrite 8 0b1111 v) s = .next { s with mailbox := { s.mailbox with
      latched := some { code := v.extractLsb' 0 8, params := s.mailbox.params }, results := #v[0, 0, 0, 0],
      completion := none } }) ∧
    (s.mailbox.latched ≠ none →
      exec (.registerWrite 8 0b1111 v) s = .next { s with flags := { s.flags with overrun := true } }) ∧
    (∀ (k : Fin 6) (lanes : BitVec 4), ∃ w : Word,
      (∀ j, j < 4 → w.extractLsb' (8 * j) 8 =
        if lanes.getLsbD j then v.extractLsb' (8 * j) 8 else (s.mailbox.params[k]).extractLsb' (8 * j) 8) ∧
      exec (.registerWrite (BitVec.ofNat 10 (12 + k.val)) lanes v) s = .next { s with mailbox := { s.mailbox with
        params := s.mailbox.params.set k w } }) ∧
    (∀ b : BufferNo, v.extractLsb' 0 8 = BitVec.ofNat 8 b.val →
      exec (.registerWrite 32 0b1111 v) s = .next (s.setPool { s.pool with select := some b })) ∧
    (128 ≤ (v.extractLsb' 0 8).toNat →
      exec (.registerWrite 32 0b1111 v) s = .next (s.setPool { s.pool with select := none })) ∧
    (∀ l, exec (.registerWrite (if l = .a then 130 else 162) 0b1111 v) s = .next
      (if v.extractLsb' 0 8 = 0 then s else s.setLine l { s.line l with grace := (v.extractLsb' 0 8).toNat })) ∧
    exec (.faultFlagClear v) s = .next { s with flags := {
      overrun := s.flags.overrun && !v.getLsbD 0, windowFault := s.flags.windowFault && !v.getLsbD 1,
      clearRefused := s.flags.clearRefused && !v.getLsbD 2 } } ∧
    (∀ l, exec (.tallyClear l v) s = .next (s.setLine l { s.line l with tallies := ⟨0, 0, 0, 0, 0⟩ })) ∧
    (v.toNat ≤ 4095 → s.timebase.taken = none ∨ s.timebase.interval = 0 →
      exec (.tickIntervalWrite v) s = .next { s with timebase := { interval := v.toNat, phase := 0, taken := none } }) ∧
    (v.toNat ≤ 4095 → s.timebase.taken ≠ none → s.timebase.interval ≠ 0 → ∃ t, exec (.tick none) s = .next t ∧
      exec (.tickIntervalWrite v) s = .next { t with timebase := { interval := v.toNat, phase := 0, taken := none } }) ∧
    (4095 < v.toNat → exec (.tickIntervalWrite v) s = .next s) ∧
    exec (.hostFloorWrite v) s = .next ((s.setPool { s.pool with
      hostFloor := if 32 < (v.extractLsb' 0 8).toNat then 32 else (v.extractLsb' 0 8).toNat }).refreshPass) ∧
    exec (.notificationSettingsWrite v) s = .next (s.setAttention { s.attention with
      enable := v.getLsbD 0,
      threshold := if 1 ≤ (v.extractLsb' 8 8).toNat ∧ (v.extractLsb' 8 8).toNat ≤ 66 then (v.extractLsb' 8 8).toNat
        else s.attention.threshold,
      holdoff := (v.extractLsb' 16 8).toNat }) ∧
    (∀ word, exec (.registerWrite word 0 v) s = .next s) ∧
    (∀ (lanes : BitVec 4) (w : Word), lanes ≠ 0 → merges w 0 v lanes →
      exec (.registerWrite 0 lanes v) s = exec (.registerWrite 0 0b1111 w) s ∧
      exec (.registerWrite 0 lanes v) s =
        (if w.getLsbD 2 then exec (.clear (w.getLsbD 0) (w.getLsbD 1)) s
         else if w.getLsbD 0 = w.getLsbD 1 then .next s
         else if w.getLsbD 0 then exec .start s else exec .stop s) ∧
      exec (.registerWrite 2 lanes v) s = exec (.faultFlagClear w) s ∧
      exec (.registerWrite 8 lanes v) s = exec (.registerWrite 8 0b1111 w) s ∧
      (∀ l, exec (.registerWrite (if l = .a then 128 else 160) lanes v) s =
        if w.getLsbD 0 then exec (.lineEnable l) s else exec (.lineDisable l) s) ∧
      (∀ l, exec (.registerWrite (if l = .a then 137 else 169) lanes v) s = exec (.tallyClear l v) s)) ∧
    (∀ (lanes : BitVec 4) (w old : Word), lanes ≠ 0 → merges w old v lanes →
      (old.toNat = s.timebase.interval → s.timebase.interval ≤ 4095 →
        exec (.registerWrite 3 lanes v) s = exec (.tickIntervalWrite w) s) ∧
      (old.getLsbD 0 = s.attention.enable → (old.extractLsb' 8 8).toNat = s.attention.threshold →
        (old.extractLsb' 16 8).toNat = s.attention.holdoff →
        exec (.registerWrite 26 lanes v) s = exec (.notificationSettingsWrite w) s) ∧
      (∀ l, (old.extractLsb' 0 8).toNat = (s.line l).grace →
        exec (.registerWrite (if l = .a then 130 else 162) lanes v) s =
          exec (.registerWrite (if l = .a then 130 else 162) 0b1111 w) s) ∧
      (old.extractLsb' 0 8 = (s.pool.select.elim 255 fun b => BitVec.ofNat 8 b.val) →
        exec (.registerWrite 32 lanes v) s = exec (.registerWrite 32 0b1111 w) s)) ∧
    (∀ lanes : BitVec 4, exec (.registerWrite 4 lanes v) s =
      if lanes.getLsbD 0 then exec (.hostFloorWrite v) s else .next s) ∧
    (∀ (word : BitVec 6) (lanes : BitVec 4), word.toNat < 60 →
      exec (.registerWrite (64 + word.setWidth 10) lanes v) s = exec (.bufferWindowWrite word lanes v) s) ∧
    (∀ (word : BitVec 10) (lanes : BitVec 4),
      word.toNat ∉ [0, 2, 3, 4, 8, 12, 13, 14, 15, 16, 17, 26, 32, 128, 130, 137, 160, 162, 169] →
      ¬ (64 ≤ word.toNat ∧ word.toNat < 124) → exec (.registerWrite word lanes v) s = .next s)

/-- The attention unit. A raised reason merges into its source's set, and a source without reasons joins the tail of the list;
into an empty list with the holdoff armed or the indicator set (R181, R185). A read of the port's first byte takes the head
notice and empties its set, and the last one taken stops the holdoff (R182, R185); a read of the other bytes takes nothing
(R190). -/
def Obligations.AttentionUnitListsAndGives : Prop :=
  ∀ s : State,
    (∀ i a r, s.assocAt i = some a → s.raiseSlot i r = (s.setAssoc i { a with reasons := a.reasons.raise r }).setAttention
      (if a.reasons = .empty then s.attention.join (.slot i) else s.attention)) ∧
    (∀ l r, s.raiseLine l r = (s.setLine l { s.line l with reasons := (s.line l).reasons.raise r }).setAttention
      (if (s.line l).reasons = .empty then s.attention.join (.line l) else s.attention)) ∧
    (∀ src, s.attention.join src =
      if s.attention.list ≠ [] then { s.attention with list := s.attention.list ++ [src] }
      else { s.attention with
        list := [src], indicator := decide (s.attention.holdoff = 0),
        holdoffTimer := if s.attention.holdoff = 0 then .stopped else .counting s.attention.holdoff }) ∧
    (s.resetAsserted = false → ∀ lanes : BitVec 4,
      (lanes.getLsbD 0 = false → exec (.attentionPortRead lanes) s = .next { s with
        dataOut := noticeWord s.attention.holding &&& laneMask lanes }) ∧
      (lanes.getLsbD 0 = true → s.attention.list = [] → exec (.attentionPortRead lanes) s = .next { s with
        dataOut := 0x000000FF, attention := { s.attention with holding := none } }) ∧
      (∀ i a rest, lanes.getLsbD 0 = true → s.attention.list = .slot i :: rest → s.assocAt i = some a →
        ∃ w, w.extractLsb' 0 8 = BitVec.ofNat 8 i.val ∧ w.extractLsb' 16 16 = s.generation i ∧
          w.extractLsb' 8 8 = BitVec.ofNat 8 (a.reasons.opened.toNat + 2 * a.reasons.offered.toNat +
            4 * a.reasons.inbound.toNat + 8 * a.reasons.drained.toNat + 16 * a.reasons.ended.toNat) ∧
          exec (.attentionPortRead lanes) s = .next { s.setAssoc i { a with reasons := .empty } with
            dataOut := w &&& laneMask lanes,
            attention := { s.attention with
              list := rest, holding := some (.slot i (s.generation i) a.reasons),
              holdoffTimer := if rest = [] then .stopped else s.attention.holdoffTimer,
              indicator := s.attention.indicator && decide (rest ≠ []) } }) ∧
      (∀ l rest, lanes.getLsbD 0 = true → s.attention.list = .line l :: rest →
        ∃ w, w.extractLsb' 0 8 = (if l = .a then 0x40 else 0x41) ∧ w.extractLsb' 16 16 = 0 ∧
          w.extractLsb' 8 8 = BitVec.ofNat 8 ((s.line l).reasons.suspended.toNat + 2 * (s.line l).reasons.down.toNat +
            4 * (s.line l).reasons.restored.toNat) ∧
          exec (.attentionPortRead lanes) s = .next { s.setLine l { s.line l with reasons := .empty } with
            dataOut := w &&& laneMask lanes,
            attention := { s.attention with
              list := rest, holding := some (.line l (s.line l).reasons),
              holdoffTimer := if rest = [] then .stopped else s.attention.holdoffTimer,
              indicator := s.attention.indicator && decide (rest ≠ []) } }))

/-- The level of the notification line (R186), and deasserted while the reset input is asserted (R191). -/
def Obligations.NotificationLineLevel : Prop :=
  ∀ s : State, s.notifyAsserted = true ↔
    s.resetAsserted = false ∧ s.attention.enable = true ∧ s.attention.list ≠ [] ∧
      (s.attention.threshold ≤ s.attention.list.length ∨ s.attention.indicator = true)

/-- The buffer window reads and writes the selected bytes of the selected buffer while it is HOST; any other access reads 0,
writes nothing and sets WINDOW_FAULT (R136, R180). What a read leaves on the data bus is the model's own field (log 10). -/
def Obligations.BufferWindowReachesHostBuffersOnly : Prop :=
  ∀ (s : State) (word : BitVec 6) (lanes : BitVec 4) (v : Word), s.resetAsserted = false → word.toNat < 60 → lanes ≠ 0 →
    ((∀ b, s.pool.select = some b → s.bufferStateAt b ≠ .host) →
      exec (.bufferWindowRead word lanes) s = .next { s with
        dataOut := 0, flags := { s.flags with windowFault := true } } ∧
      exec (.bufferWindowWrite word lanes v) s = .next { s with flags := { s.flags with windowFault := true } }) ∧
    (∀ b, s.pool.select = some b → s.bufferStateAt b = .host →
      (∃ w : Word, exec (.bufferWindowRead word lanes) s = .next { s with dataOut := w } ∧
        ∀ j, j < 4 → w.extractLsb' (8 * j) 8 = if lanes.getLsbD j then s.bufferByte b (4 * word.toNat + j) else 0) ∧
      (Memory.wf s.pool.memory = true → ∃ m, exec (.bufferWindowWrite word lanes v) s =
          .next (s.setPool { s.pool with memory := m }) ∧
        ∀ x k, k < 240 → Memory.read m (Memory.cell x k) =
          if x = b ∧ k / 4 = word.toNat ∧ lanes.getLsbD (k % 4) = true then v.extractLsb' (8 * (k % 4)) 8
          else s.bufferByte x k))

end Statements
end

