-- ==== Sys2Proof/Laws/Memory.lean ====
section
/-! SUPPORT. The buffer bytes: reads after writes, and that every write keeps the canonical form. -/

namespace Sys2Proof.Machine

/-- The canonical form of a non-empty list, taken apart. -/
theorem wfFrom_cons {lo a : Nat} {v : Byte} {rest : List Host.Cell} :
    Memory.wfFrom lo ((a, v) :: rest) = true ↔ lo ≤ a ∧ a < Memory.size ∧ v ≠ 0 ∧ Memory.wfFrom (a + 1) rest = true := by
  simp [Memory.wfFrom, and_assoc]

/-- A list that is canonical from a cell on is canonical from any lower one on. -/
theorem wfFrom_mono {lo hi : Nat} (h : lo ≤ hi) {m : List Host.Cell} (hm : Memory.wfFrom hi m = true) :
    Memory.wfFrom lo m = true := by
  cases m with
  | nil => rfl
  | cons c rest =>
    obtain ⟨a, v⟩ := c
    rw [wfFrom_cons] at hm ⊢
    exact ⟨h.trans hm.1, hm.2⟩

/-- Below its first cell a canonical list reads 0. -/
theorem read_below {m : List Host.Cell} : ∀ {lo x : Nat}, Memory.wfFrom lo m = true → x < lo → Memory.read m x = 0 := by
  induction m with
  | nil => intros; rfl
  | cons c rest ih =>
    obtain ⟨a, v⟩ := c
    intro lo x hm hx
    obtain ⟨h1, -, -, h4⟩ := wfFrom_cons.1 hm
    have : x ≠ a := by omega
    simp only [Memory.read, this, if_false]
    exact ih h4 (by omega)

/-- A read after a write: the value at the cell written, the old value at every other. -/
theorem read_write {m : List Host.Cell} : ∀ {lo : Nat}, Memory.wfFrom lo m = true → ∀ (x y : Nat) (v : Byte),
    Memory.read (Memory.write m x v) y = if y = x then v else Memory.read m y := by
  induction m with
  | nil =>
    intro lo _ x y v
    by_cases hv : v = 0
    · subst hv; simp [Memory.write, Memory.read]
    · simp only [Memory.write, hv, if_false]
      rfl
  | cons c rest ih =>
    obtain ⟨a, w⟩ := c
    intro lo hm x y v
    obtain ⟨h1, h2, h3, h4⟩ := wfFrom_cons.1 hm
    by_cases hlt : x < a
    · by_cases hv : v = 0
      · subst hv
        simp only [Memory.write, hlt, if_true]
        by_cases hy : y = x
        · subst hy
          have hy : y ≠ a := by omega
          simp only [Memory.read, hy, if_false, if_true]
          exact read_below h4 (by omega)
        · simp [hy]
      · simp only [Memory.write, hlt, hv, if_true, if_false]
        rw [Memory.read]
    · by_cases heq : x = a
      · subst heq
        by_cases hv : v = 0
        · subst hv
          simp only [Memory.write, lt_irrefl, if_true, if_false]
          by_cases hy : y = x
          · subst hy
            simp only [if_true]
            exact read_below h4 (by omega)
          · simp [hy, Memory.read]
        · simp only [Memory.write, lt_irrefl, hv, if_true, if_false]
          by_cases hy : y = x <;> simp [hy, Memory.read]
      · simp only [Memory.write, hlt, heq, if_false]
        by_cases hy : y = a
        · subst hy
          have : y ≠ x := fun e => heq e.symm
          simp [Memory.read, this]
        · simp only [Memory.read, hy, if_false]
          exact ih h4 x y v

/-- A write inside the buffers keeps the canonical form. -/
theorem wfFrom_write {m : List Host.Cell} : ∀ {lo x : Nat} (v : Byte), Memory.wfFrom lo m = true → lo ≤ x →
    x < Memory.size → Memory.wfFrom lo (Memory.write m x v) = true := by
  induction m with
  | nil =>
    intro lo x v _ hlo hx
    by_cases hv : v = 0
    · subst hv; rfl
    · simp only [Memory.write, hv, if_false]
      exact wfFrom_cons.2 ⟨hlo, hx, hv, rfl⟩
  | cons c rest ih =>
    obtain ⟨a, w⟩ := c
    intro lo x v hm hlo hx
    obtain ⟨h1, h2, h3, h4⟩ := wfFrom_cons.1 hm
    by_cases hlt : x < a
    · by_cases hv : v = 0
      · simpa [Memory.write, hlt, hv] using hm
      · simp only [Memory.write, hlt, hv, if_true, if_false]
        exact wfFrom_cons.2 ⟨hlo, hx, hv, wfFrom_cons.2 ⟨hlt, h2, h3, h4⟩⟩
    · by_cases heq : x = a
      · subst heq
        by_cases hv : v = 0
        · simp only [Memory.write, lt_irrefl, hv, if_true, if_false]
          exact wfFrom_mono (by omega) h4
        · simp only [Memory.write, lt_irrefl, hv, if_true, if_false]
          exact wfFrom_cons.2 ⟨h1, h2, hv, h4⟩
      · simp only [Memory.write, hlt, heq, if_false]
        exact wfFrom_cons.2 ⟨h1, h2, h3, ih v h4 (by omega) hx⟩

/-- A write inside the buffers keeps the canonical form of the whole. -/
theorem wf_write {m : List Host.Cell} {x : Nat} (v : Byte) (h : Memory.wf m = true) (hx : x < Memory.size) :
    Memory.wf (Memory.write m x v) = true :=
  wfFrom_write v h (Nat.zero_le x) hx

/-- Writing bytes inside the buffers keeps the canonical form. -/
theorem wf_writeBytes (bytes : List Byte) : ∀ {m : List Host.Cell} {x : Nat}, Memory.wf m = true →
    x + bytes.length ≤ Memory.size → Memory.wf (Memory.writeBytes m x bytes) = true := by
  induction bytes with
  | nil => intro m x h _; exact h
  | cons v rest ih =>
    intro m x h hx
    rw [List.length_cons] at hx
    exact ih (wf_write v h (by omega)) (by omega)

/-- A read after writing bytes: the byte written there, the old value outside them. -/
theorem read_writeBytes (bytes : List Byte) : ∀ {m : List Host.Cell} {x : Nat}, Memory.wf m = true →
    x + bytes.length ≤ Memory.size → ∀ y, Memory.read (Memory.writeBytes m x bytes) y =
      if x ≤ y ∧ y < x + bytes.length then bytes.getD (y - x) 0 else Memory.read m y := by
  induction bytes with
  | nil =>
    intro m x _ _ y
    have : ¬ (x ≤ y ∧ y < x + ([] : List Byte).length) := by simp
    rw [if_neg this]
    rfl
  | cons v rest ih =>
    intro m x h hx y
    rw [List.length_cons] at hx ⊢
    rw [Memory.writeBytes, ih (wf_write v h (by omega)) (by omega), read_write h]
    by_cases hy : y = x
    · subst hy
      have h1 : ¬ (y + 1 ≤ y ∧ y < y + 1 + rest.length) := by omega
      have h2 : y ≤ y ∧ y < y + (rest.length + 1) := by omega
      simp [h2]
    · by_cases hr : x + 1 ≤ y ∧ y < x + 1 + rest.length
      · have h2 : x ≤ y ∧ y < x + (rest.length + 1) := by omega
        have h3 : y - x = (y - (x + 1)) + 1 := by omega
        rw [if_pos hr, if_pos h2, h3, List.getD_cons_succ]
      · have h2 : ¬ (x ≤ y ∧ y < x + (rest.length + 1)) := by omega
        rw [if_neg hr, if_neg h2, if_neg hy]

/-- The bytes read from a cell on, one by one. -/
theorem readBytes_eq (m : List Host.Cell) (n : Nat) : ∀ x, Memory.readBytes m x n =
    (List.range n).map fun k => Memory.read m (x + k) := by
  induction n with
  | zero => intro x; rfl
  | succ n ih =>
    intro x
    rw [Memory.readBytes, ih, List.range_succ_eq_map, List.map_cons, List.map_map]
    simp only [Nat.add_zero, List.cons.injEq, true_and]
    refine List.map_congr_left fun k _ => ?_
    simp only [Function.comp]
    congr 1
    omega

/-- Two bytes of the buffers are the same cell only if they are the same byte of the same buffer. -/
theorem cell_inj {b c : BufferNo} {j k : Nat} (hj : j < 240) (hk : k < 240) (h : Memory.cell b j = Memory.cell c k) :
    b = c ∧ j = k := by
  simp only [Memory.cell, Config.bufferBytes] at h
  have h1 : b.val = c.val := by omega
  exact ⟨Fin.ext h1, by omega⟩

/-- Every byte of a buffer is inside the buffers. -/
theorem cell_lt (b : BufferNo) {k : Nat} (hk : k < 240) : Memory.cell b k < Memory.size := by
  simp only [Memory.cell, Memory.size, Config.bufferBytes]
  have := b.isLt
  omega

/-- The memory after a device reset has the canonical form. -/
theorem reset_memory_wf : Memory.wf State.reset.pool.memory = true := rfl

end Sys2Proof.Machine
end

