-- ==== Sys2Proof/Laws/State.lean ====
section
/-! SUPPORT. One lemma per field per update of the state, and the reads of records after them, so that no proof unfolds a record
update. -/

namespace Sys2Proof.Machine

variable (s : State)

/-! ### `setSlotRec` -/

@[simp] theorem setSlotRec_resetAsserted (i : Slot) (r : SlotRecord) : (s.setSlotRec i r).resetAsserted = s.resetAsserted := rfl
@[simp] theorem setSlotRec_dataOut (i : Slot) (r : SlotRecord) : (s.setSlotRec i r).dataOut = s.dataOut := rfl
@[simp] theorem setSlotRec_table (i : Slot) (r : SlotRecord) : (s.setSlotRec i r).table = s.table.set i r := rfl
@[simp] theorem setSlotRec_addressMap (i : Slot) (r : SlotRecord) : (s.setSlotRec i r).addressMap = s.addressMap := rfl
@[simp] theorem setSlotRec_listen (i : Slot) (r : SlotRecord) : (s.setSlotRec i r).listen = s.listen := rfl
@[simp] theorem setSlotRec_pool (i : Slot) (r : SlotRecord) : (s.setSlotRec i r).pool = s.pool := rfl
@[simp] theorem setSlotRec_lineA (i : Slot) (r : SlotRecord) : (s.setSlotRec i r).lineA = s.lineA := rfl
@[simp] theorem setSlotRec_lineB (i : Slot) (r : SlotRecord) : (s.setSlotRec i r).lineB = s.lineB := rfl
@[simp] theorem setSlotRec_timebase (i : Slot) (r : SlotRecord) : (s.setSlotRec i r).timebase = s.timebase := rfl
@[simp] theorem setSlotRec_controller (i : Slot) (r : SlotRecord) : (s.setSlotRec i r).controller = s.controller := rfl
@[simp] theorem setSlotRec_mailbox (i : Slot) (r : SlotRecord) : (s.setSlotRec i r).mailbox = s.mailbox := rfl
@[simp] theorem setSlotRec_flags (i : Slot) (r : SlotRecord) : (s.setSlotRec i r).flags = s.flags := rfl
@[simp] theorem setSlotRec_attention (i : Slot) (r : SlotRecord) : (s.setSlotRec i r).attention = s.attention := rfl
@[simp] theorem setSlotRec_pending (i : Slot) (r : SlotRecord) : (s.setSlotRec i r).pending = s.pending := rfl

/-! ### `setAssoc` -/

@[simp] theorem setAssoc_resetAsserted (i : Slot) (a : Assoc) : (s.setAssoc i a).resetAsserted = s.resetAsserted := rfl
@[simp] theorem setAssoc_dataOut (i : Slot) (a : Assoc) : (s.setAssoc i a).dataOut = s.dataOut := rfl
@[simp] theorem setAssoc_table (i : Slot) (a : Assoc) : (s.setAssoc i a).table = s.table.set i { generation := s.generation i, assoc := some a } := rfl
@[simp] theorem setAssoc_addressMap (i : Slot) (a : Assoc) : (s.setAssoc i a).addressMap = s.addressMap := rfl
@[simp] theorem setAssoc_listen (i : Slot) (a : Assoc) : (s.setAssoc i a).listen = s.listen := rfl
@[simp] theorem setAssoc_pool (i : Slot) (a : Assoc) : (s.setAssoc i a).pool = s.pool := rfl
@[simp] theorem setAssoc_lineA (i : Slot) (a : Assoc) : (s.setAssoc i a).lineA = s.lineA := rfl
@[simp] theorem setAssoc_lineB (i : Slot) (a : Assoc) : (s.setAssoc i a).lineB = s.lineB := rfl
@[simp] theorem setAssoc_timebase (i : Slot) (a : Assoc) : (s.setAssoc i a).timebase = s.timebase := rfl
@[simp] theorem setAssoc_controller (i : Slot) (a : Assoc) : (s.setAssoc i a).controller = s.controller := rfl
@[simp] theorem setAssoc_mailbox (i : Slot) (a : Assoc) : (s.setAssoc i a).mailbox = s.mailbox := rfl
@[simp] theorem setAssoc_flags (i : Slot) (a : Assoc) : (s.setAssoc i a).flags = s.flags := rfl
@[simp] theorem setAssoc_attention (i : Slot) (a : Assoc) : (s.setAssoc i a).attention = s.attention := rfl
@[simp] theorem setAssoc_pending (i : Slot) (a : Assoc) : (s.setAssoc i a).pending = s.pending := rfl

/-! ### `setListen` -/

@[simp] theorem setListen_resetAsserted (n : ListenNo) (e : ListenEntry) : (s.setListen n e).resetAsserted = s.resetAsserted := rfl
@[simp] theorem setListen_dataOut (n : ListenNo) (e : ListenEntry) : (s.setListen n e).dataOut = s.dataOut := rfl
@[simp] theorem setListen_table (n : ListenNo) (e : ListenEntry) : (s.setListen n e).table = s.table := rfl
@[simp] theorem setListen_addressMap (n : ListenNo) (e : ListenEntry) : (s.setListen n e).addressMap = s.addressMap := rfl
@[simp] theorem setListen_listen (n : ListenNo) (e : ListenEntry) : (s.setListen n e).listen = s.listen.set n e := rfl
@[simp] theorem setListen_pool (n : ListenNo) (e : ListenEntry) : (s.setListen n e).pool = s.pool := rfl
@[simp] theorem setListen_lineA (n : ListenNo) (e : ListenEntry) : (s.setListen n e).lineA = s.lineA := rfl
@[simp] theorem setListen_lineB (n : ListenNo) (e : ListenEntry) : (s.setListen n e).lineB = s.lineB := rfl
@[simp] theorem setListen_timebase (n : ListenNo) (e : ListenEntry) : (s.setListen n e).timebase = s.timebase := rfl
@[simp] theorem setListen_controller (n : ListenNo) (e : ListenEntry) : (s.setListen n e).controller = s.controller := rfl
@[simp] theorem setListen_mailbox (n : ListenNo) (e : ListenEntry) : (s.setListen n e).mailbox = s.mailbox := rfl
@[simp] theorem setListen_flags (n : ListenNo) (e : ListenEntry) : (s.setListen n e).flags = s.flags := rfl
@[simp] theorem setListen_attention (n : ListenNo) (e : ListenEntry) : (s.setListen n e).attention = s.attention := rfl
@[simp] theorem setListen_pending (n : ListenNo) (e : ListenEntry) : (s.setListen n e).pending = s.pending := rfl

/-! ### `setPool` -/

@[simp] theorem setPool_resetAsserted (p : Pool) : (s.setPool p).resetAsserted = s.resetAsserted := rfl
@[simp] theorem setPool_dataOut (p : Pool) : (s.setPool p).dataOut = s.dataOut := rfl
@[simp] theorem setPool_table (p : Pool) : (s.setPool p).table = s.table := rfl
@[simp] theorem setPool_addressMap (p : Pool) : (s.setPool p).addressMap = s.addressMap := rfl
@[simp] theorem setPool_listen (p : Pool) : (s.setPool p).listen = s.listen := rfl
@[simp] theorem setPool_pool (p : Pool) : (s.setPool p).pool = p := rfl
@[simp] theorem setPool_lineA (p : Pool) : (s.setPool p).lineA = s.lineA := rfl
@[simp] theorem setPool_lineB (p : Pool) : (s.setPool p).lineB = s.lineB := rfl
@[simp] theorem setPool_timebase (p : Pool) : (s.setPool p).timebase = s.timebase := rfl
@[simp] theorem setPool_controller (p : Pool) : (s.setPool p).controller = s.controller := rfl
@[simp] theorem setPool_mailbox (p : Pool) : (s.setPool p).mailbox = s.mailbox := rfl
@[simp] theorem setPool_flags (p : Pool) : (s.setPool p).flags = s.flags := rfl
@[simp] theorem setPool_attention (p : Pool) : (s.setPool p).attention = s.attention := rfl
@[simp] theorem setPool_pending (p : Pool) : (s.setPool p).pending = s.pending := rfl

/-! ### `setAttention` -/

@[simp] theorem setAttention_resetAsserted (t : Attention) : (s.setAttention t).resetAsserted = s.resetAsserted := rfl
@[simp] theorem setAttention_dataOut (t : Attention) : (s.setAttention t).dataOut = s.dataOut := rfl
@[simp] theorem setAttention_table (t : Attention) : (s.setAttention t).table = s.table := rfl
@[simp] theorem setAttention_addressMap (t : Attention) : (s.setAttention t).addressMap = s.addressMap := rfl
@[simp] theorem setAttention_listen (t : Attention) : (s.setAttention t).listen = s.listen := rfl
@[simp] theorem setAttention_pool (t : Attention) : (s.setAttention t).pool = s.pool := rfl
@[simp] theorem setAttention_lineA (t : Attention) : (s.setAttention t).lineA = s.lineA := rfl
@[simp] theorem setAttention_lineB (t : Attention) : (s.setAttention t).lineB = s.lineB := rfl
@[simp] theorem setAttention_timebase (t : Attention) : (s.setAttention t).timebase = s.timebase := rfl
@[simp] theorem setAttention_controller (t : Attention) : (s.setAttention t).controller = s.controller := rfl
@[simp] theorem setAttention_mailbox (t : Attention) : (s.setAttention t).mailbox = s.mailbox := rfl
@[simp] theorem setAttention_flags (t : Attention) : (s.setAttention t).flags = s.flags := rfl
@[simp] theorem setAttention_attention (t : Attention) : (s.setAttention t).attention = t := rfl
@[simp] theorem setAttention_pending (t : Attention) : (s.setAttention t).pending = s.pending := rfl

/-! ### `dropKey` -/

@[simp] theorem dropKey_resetAsserted (k : Key) : (s.dropKey k).resetAsserted = s.resetAsserted := rfl
@[simp] theorem dropKey_dataOut (k : Key) : (s.dropKey k).dataOut = s.dataOut := rfl
@[simp] theorem dropKey_table (k : Key) : (s.dropKey k).table = s.table := rfl
@[simp] theorem dropKey_addressMap (k : Key) : (s.dropKey k).addressMap = s.addressMap.filter fun e => e.key ≠ k := rfl
@[simp] theorem dropKey_listen (k : Key) : (s.dropKey k).listen = s.listen := rfl
@[simp] theorem dropKey_pool (k : Key) : (s.dropKey k).pool = s.pool := rfl
@[simp] theorem dropKey_lineA (k : Key) : (s.dropKey k).lineA = s.lineA := rfl
@[simp] theorem dropKey_lineB (k : Key) : (s.dropKey k).lineB = s.lineB := rfl
@[simp] theorem dropKey_timebase (k : Key) : (s.dropKey k).timebase = s.timebase := rfl
@[simp] theorem dropKey_controller (k : Key) : (s.dropKey k).controller = s.controller := rfl
@[simp] theorem dropKey_mailbox (k : Key) : (s.dropKey k).mailbox = s.mailbox := rfl
@[simp] theorem dropKey_flags (k : Key) : (s.dropKey k).flags = s.flags := rfl
@[simp] theorem dropKey_attention (k : Key) : (s.dropKey k).attention = s.attention := rfl
@[simp] theorem dropKey_pending (k : Key) : (s.dropKey k).pending = s.pending := rfl

/-! ### `giveBack` -/

@[simp] theorem giveBack_resetAsserted (n : Nat) : (s.giveBack n).resetAsserted = s.resetAsserted := rfl
@[simp] theorem giveBack_dataOut (n : Nat) : (s.giveBack n).dataOut = s.dataOut := rfl
@[simp] theorem giveBack_table (n : Nat) : (s.giveBack n).table = s.table := rfl
@[simp] theorem giveBack_addressMap (n : Nat) : (s.giveBack n).addressMap = s.addressMap := rfl
@[simp] theorem giveBack_listen (n : Nat) : (s.giveBack n).listen = s.listen := rfl
@[simp] theorem giveBack_pool (n : Nat) : (s.giveBack n).pool = { s.pool with reserved := s.pool.reserved - n } := rfl
@[simp] theorem giveBack_lineA (n : Nat) : (s.giveBack n).lineA = s.lineA := rfl
@[simp] theorem giveBack_lineB (n : Nat) : (s.giveBack n).lineB = s.lineB := rfl
@[simp] theorem giveBack_timebase (n : Nat) : (s.giveBack n).timebase = s.timebase := rfl
@[simp] theorem giveBack_controller (n : Nat) : (s.giveBack n).controller = s.controller := rfl
@[simp] theorem giveBack_mailbox (n : Nat) : (s.giveBack n).mailbox = s.mailbox := rfl
@[simp] theorem giveBack_flags (n : Nat) : (s.giveBack n).flags = s.flags := rfl
@[simp] theorem giveBack_attention (n : Nat) : (s.giveBack n).attention = s.attention := rfl
@[simp] theorem giveBack_pending (n : Nat) : (s.giveBack n).pending = s.pending := rfl

/-! ### `complete` -/

@[simp] theorem complete_resetAsserted (c : Completion) : (s.complete c).resetAsserted = s.resetAsserted := rfl
@[simp] theorem complete_dataOut (c : Completion) : (s.complete c).dataOut = s.dataOut := rfl
@[simp] theorem complete_table (c : Completion) : (s.complete c).table = s.table := rfl
@[simp] theorem complete_addressMap (c : Completion) : (s.complete c).addressMap = s.addressMap := rfl
@[simp] theorem complete_listen (c : Completion) : (s.complete c).listen = s.listen := rfl
@[simp] theorem complete_pool (c : Completion) : (s.complete c).pool = s.pool := rfl
@[simp] theorem complete_lineA (c : Completion) : (s.complete c).lineA = s.lineA := rfl
@[simp] theorem complete_lineB (c : Completion) : (s.complete c).lineB = s.lineB := rfl
@[simp] theorem complete_timebase (c : Completion) : (s.complete c).timebase = s.timebase := rfl
@[simp] theorem complete_controller (c : Completion) : (s.complete c).controller = s.controller := rfl
@[simp] theorem complete_mailbox (c : Completion) : (s.complete c).mailbox = { s.mailbox with latched := none, completion := some c } := rfl
@[simp] theorem complete_flags (c : Completion) : (s.complete c).flags = s.flags := rfl
@[simp] theorem complete_attention (c : Completion) : (s.complete c).attention = s.attention := rfl
@[simp] theorem complete_pending (c : Completion) : (s.complete c).pending = s.pending := rfl

/-! ### `completeOk` -/

@[simp] theorem completeOk_resetAsserted (q : Vector Word 4) : (s.completeOk q).resetAsserted = s.resetAsserted := rfl
@[simp] theorem completeOk_dataOut (q : Vector Word 4) : (s.completeOk q).dataOut = s.dataOut := rfl
@[simp] theorem completeOk_table (q : Vector Word 4) : (s.completeOk q).table = s.table := rfl
@[simp] theorem completeOk_addressMap (q : Vector Word 4) : (s.completeOk q).addressMap = s.addressMap := rfl
@[simp] theorem completeOk_listen (q : Vector Word 4) : (s.completeOk q).listen = s.listen := rfl
@[simp] theorem completeOk_pool (q : Vector Word 4) : (s.completeOk q).pool = s.pool := rfl
@[simp] theorem completeOk_lineA (q : Vector Word 4) : (s.completeOk q).lineA = s.lineA := rfl
@[simp] theorem completeOk_lineB (q : Vector Word 4) : (s.completeOk q).lineB = s.lineB := rfl
@[simp] theorem completeOk_timebase (q : Vector Word 4) : (s.completeOk q).timebase = s.timebase := rfl
@[simp] theorem completeOk_controller (q : Vector Word 4) : (s.completeOk q).controller = s.controller := rfl
@[simp] theorem completeOk_mailbox (q : Vector Word 4) : (s.completeOk q).mailbox = { s.mailbox with latched := none, completion := some .ok, results := q } := rfl
@[simp] theorem completeOk_flags (q : Vector Word 4) : (s.completeOk q).flags = s.flags := rfl
@[simp] theorem completeOk_attention (q : Vector Word 4) : (s.completeOk q).attention = s.attention := rfl
@[simp] theorem completeOk_pending (q : Vector Word 4) : (s.completeOk q).pending = s.pending := rfl

/-! ### `setLine` -/

@[simp] theorem setLine_resetAsserted (l : Line) (r : LineRecord) : (s.setLine l r).resetAsserted = s.resetAsserted := by cases l <;> rfl
@[simp] theorem setLine_dataOut (l : Line) (r : LineRecord) : (s.setLine l r).dataOut = s.dataOut := by cases l <;> rfl
@[simp] theorem setLine_table (l : Line) (r : LineRecord) : (s.setLine l r).table = s.table := by cases l <;> rfl
@[simp] theorem setLine_addressMap (l : Line) (r : LineRecord) : (s.setLine l r).addressMap = s.addressMap := by cases l <;> rfl
@[simp] theorem setLine_listen (l : Line) (r : LineRecord) : (s.setLine l r).listen = s.listen := by cases l <;> rfl
@[simp] theorem setLine_pool (l : Line) (r : LineRecord) : (s.setLine l r).pool = s.pool := by cases l <;> rfl
@[simp] theorem setLine_timebase (l : Line) (r : LineRecord) : (s.setLine l r).timebase = s.timebase := by cases l <;> rfl
@[simp] theorem setLine_controller (l : Line) (r : LineRecord) : (s.setLine l r).controller = s.controller := by cases l <;> rfl
@[simp] theorem setLine_mailbox (l : Line) (r : LineRecord) : (s.setLine l r).mailbox = s.mailbox := by cases l <;> rfl
@[simp] theorem setLine_flags (l : Line) (r : LineRecord) : (s.setLine l r).flags = s.flags := by cases l <;> rfl
@[simp] theorem setLine_attention (l : Line) (r : LineRecord) : (s.setLine l r).attention = s.attention := by cases l <;> rfl
@[simp] theorem setLine_pending (l : Line) (r : LineRecord) : (s.setLine l r).pending = s.pending := by cases l <;> rfl
@[simp] theorem setLine_a_lineA (r : LineRecord) : (s.setLine .a r).lineA = r := rfl
@[simp] theorem setLine_a_lineB (r : LineRecord) : (s.setLine .a r).lineB = s.lineB := rfl
@[simp] theorem setLine_b_lineA (r : LineRecord) : (s.setLine .b r).lineA = s.lineA := rfl
@[simp] theorem setLine_b_lineB (r : LineRecord) : (s.setLine .b r).lineB = r := rfl
@[simp] theorem line_setLine_self (l : Line) (r : LineRecord) : (s.setLine l r).line l = r := by cases l <;> rfl

theorem line_setLine_of_ne {l m : Line} (h : m ≠ l) (r : LineRecord) : (s.setLine l r).line m = s.line m := by
  cases l <;> cases m <;> first | rfl | exact absurd rfl h

theorem setLine_line_self (l : Line) : s.setLine l (s.line l) = s := by cases l <;> rfl

theorem setLine_setLine (l : Line) (r q : LineRecord) : (s.setLine l r).setLine l q = s.setLine l q := by
  cases l <;> rfl

/-! ### A line after the other updates -/

@[simp] theorem line_setSlotRec (i : Slot) (r : SlotRecord) (l : Line) : (s.setSlotRec i r).line l = s.line l := by cases l <;> rfl
@[simp] theorem line_setAssoc (i : Slot) (a : Assoc) (l : Line) : (s.setAssoc i a).line l = s.line l := by cases l <;> rfl
@[simp] theorem line_setListen (n : ListenNo) (e : ListenEntry) (l : Line) : (s.setListen n e).line l = s.line l := by cases l <;> rfl
@[simp] theorem line_setPool (p : Pool) (l : Line) : (s.setPool p).line l = s.line l := by cases l <;> rfl
@[simp] theorem line_setAttention (t : Attention) (l : Line) : (s.setAttention t).line l = s.line l := by cases l <;> rfl
@[simp] theorem line_dropKey (k : Key) (l : Line) : (s.dropKey k).line l = s.line l := by cases l <;> rfl
@[simp] theorem line_giveBack (n : Nat) (l : Line) : (s.giveBack n).line l = s.line l := by cases l <;> rfl
@[simp] theorem line_complete (c : Completion) (l : Line) : (s.complete c).line l = s.line l := by cases l <;> rfl
@[simp] theorem line_completeOk (q : Vector Word 4) (l : Line) : (s.completeOk q).line l = s.line l := by cases l <;> rfl

/-! ### Slots after the updates -/

@[simp] theorem slotRec_setListen (n : ListenNo) (e : ListenEntry) (i : Slot) : (s.setListen n e).slotRec i = s.slotRec i := rfl
@[simp] theorem assocAt_setListen (n : ListenNo) (e : ListenEntry) (i : Slot) : (s.setListen n e).assocAt i = s.assocAt i := rfl
@[simp] theorem generation_setListen (n : ListenNo) (e : ListenEntry) (i : Slot) : (s.setListen n e).generation i = s.generation i := rfl
@[simp] theorem slotRec_setPool (p : Pool) (i : Slot) : (s.setPool p).slotRec i = s.slotRec i := rfl
@[simp] theorem assocAt_setPool (p : Pool) (i : Slot) : (s.setPool p).assocAt i = s.assocAt i := rfl
@[simp] theorem generation_setPool (p : Pool) (i : Slot) : (s.setPool p).generation i = s.generation i := rfl
@[simp] theorem slotRec_setAttention (t : Attention) (i : Slot) : (s.setAttention t).slotRec i = s.slotRec i := rfl
@[simp] theorem assocAt_setAttention (t : Attention) (i : Slot) : (s.setAttention t).assocAt i = s.assocAt i := rfl
@[simp] theorem generation_setAttention (t : Attention) (i : Slot) : (s.setAttention t).generation i = s.generation i := rfl
@[simp] theorem slotRec_dropKey (k : Key) (i : Slot) : (s.dropKey k).slotRec i = s.slotRec i := rfl
@[simp] theorem assocAt_dropKey (k : Key) (i : Slot) : (s.dropKey k).assocAt i = s.assocAt i := rfl
@[simp] theorem generation_dropKey (k : Key) (i : Slot) : (s.dropKey k).generation i = s.generation i := rfl
@[simp] theorem slotRec_giveBack (n : Nat) (i : Slot) : (s.giveBack n).slotRec i = s.slotRec i := rfl
@[simp] theorem assocAt_giveBack (n : Nat) (i : Slot) : (s.giveBack n).assocAt i = s.assocAt i := rfl
@[simp] theorem generation_giveBack (n : Nat) (i : Slot) : (s.giveBack n).generation i = s.generation i := rfl
@[simp] theorem slotRec_complete (c : Completion) (i : Slot) : (s.complete c).slotRec i = s.slotRec i := rfl
@[simp] theorem assocAt_complete (c : Completion) (i : Slot) : (s.complete c).assocAt i = s.assocAt i := rfl
@[simp] theorem generation_complete (c : Completion) (i : Slot) : (s.complete c).generation i = s.generation i := rfl
@[simp] theorem slotRec_completeOk (q : Vector Word 4) (i : Slot) : (s.completeOk q).slotRec i = s.slotRec i := rfl
@[simp] theorem assocAt_completeOk (q : Vector Word 4) (i : Slot) : (s.completeOk q).assocAt i = s.assocAt i := rfl
@[simp] theorem generation_completeOk (q : Vector Word 4) (i : Slot) : (s.completeOk q).generation i = s.generation i := rfl
@[simp] theorem slotRec_setLine (l : Line) (r : LineRecord) (i : Slot) : (s.setLine l r).slotRec i = s.slotRec i := by
  cases l <;> rfl
@[simp] theorem assocAt_setLine (l : Line) (r : LineRecord) (i : Slot) : (s.setLine l r).assocAt i = s.assocAt i := by
  cases l <;> rfl
@[simp] theorem generation_setLine (l : Line) (r : LineRecord) (i : Slot) : (s.setLine l r).generation i = s.generation i := by
  cases l <;> rfl

@[simp] theorem slotRec_setSlotRec_self (i : Slot) (r : SlotRecord) : (s.setSlotRec i r).slotRec i = r := by
  simp [State.slotRec, State.setSlotRec]

theorem slotRec_setSlotRec_of_ne {i j : Slot} (h : j ≠ i) (r : SlotRecord) :
    (s.setSlotRec i r).slotRec j = s.slotRec j := by
  have h' : i.val ≠ j.val := fun e => h (Fin.ext e.symm)
  simp [State.slotRec, State.setSlotRec, h']

@[simp] theorem assocAt_setSlotRec_self (i : Slot) (r : SlotRecord) : (s.setSlotRec i r).assocAt i = r.assoc := by
  simp [State.assocAt]

theorem assocAt_setSlotRec_of_ne {i j : Slot} (h : j ≠ i) (r : SlotRecord) :
    (s.setSlotRec i r).assocAt j = s.assocAt j := by
  simp [State.assocAt, slotRec_setSlotRec_of_ne s h]

@[simp] theorem generation_setSlotRec_self (i : Slot) (r : SlotRecord) :
    (s.setSlotRec i r).generation i = r.generation := by
  simp [State.generation]

theorem generation_setSlotRec_of_ne {i j : Slot} (h : j ≠ i) (r : SlotRecord) :
    (s.setSlotRec i r).generation j = s.generation j := by
  simp [State.generation, slotRec_setSlotRec_of_ne s h]

@[simp] theorem assocAt_setAssoc_self (i : Slot) (a : Assoc) : (s.setAssoc i a).assocAt i = some a := by
  simp [State.setAssoc]

theorem assocAt_setAssoc_of_ne {i j : Slot} (h : j ≠ i) (a : Assoc) : (s.setAssoc i a).assocAt j = s.assocAt j := by
  simp [State.setAssoc, assocAt_setSlotRec_of_ne s h]

theorem slotRec_setAssoc_of_ne {i j : Slot} (h : j ≠ i) (a : Assoc) : (s.setAssoc i a).slotRec j = s.slotRec j := by
  simp [State.setAssoc, slotRec_setSlotRec_of_ne s h]

@[simp] theorem generation_setAssoc (i j : Slot) (a : Assoc) : (s.setAssoc i a).generation j = s.generation j := by
  by_cases h : j = i
  · subst h; simp [State.setAssoc]
  · simp [State.setAssoc, generation_setSlotRec_of_ne s h]

/-! ### Listen entries and buffers after the updates -/

@[simp] theorem listenAt_setListen_self (n : ListenNo) (e : ListenEntry) : (s.setListen n e).listenAt n = e := by
  simp [State.listenAt, State.setListen]

theorem listenAt_setListen_of_ne {n m : ListenNo} (h : m ≠ n) (e : ListenEntry) :
    (s.setListen n e).listenAt m = s.listenAt m := by
  have h' : n.val ≠ m.val := fun x => h (Fin.ext x.symm)
  simp [State.listenAt, State.setListen, h']

@[simp] theorem listenAt_setSlotRec (i : Slot) (r : SlotRecord) (m : ListenNo) : (s.setSlotRec i r).listenAt m = s.listenAt m := rfl
@[simp] theorem bufferStateAt_setSlotRec (i : Slot) (r : SlotRecord) (x : BufferNo) :
    (s.setSlotRec i r).bufferStateAt x = s.bufferStateAt x := rfl
@[simp] theorem bufferByte_setSlotRec (i : Slot) (r : SlotRecord) (x : BufferNo) (j : Nat) :
    (s.setSlotRec i r).bufferByte x j = s.bufferByte x j := rfl
@[simp] theorem listenAt_setAssoc (i : Slot) (a : Assoc) (m : ListenNo) : (s.setAssoc i a).listenAt m = s.listenAt m := rfl
@[simp] theorem bufferStateAt_setAssoc (i : Slot) (a : Assoc) (x : BufferNo) :
    (s.setAssoc i a).bufferStateAt x = s.bufferStateAt x := rfl
@[simp] theorem bufferByte_setAssoc (i : Slot) (a : Assoc) (x : BufferNo) (j : Nat) :
    (s.setAssoc i a).bufferByte x j = s.bufferByte x j := rfl
@[simp] theorem bufferStateAt_setListen (n : ListenNo) (e : ListenEntry) (x : BufferNo) :
    (s.setListen n e).bufferStateAt x = s.bufferStateAt x := rfl
@[simp] theorem bufferByte_setListen (n : ListenNo) (e : ListenEntry) (x : BufferNo) (j : Nat) :
    (s.setListen n e).bufferByte x j = s.bufferByte x j := rfl
@[simp] theorem listenAt_setPool (p : Pool) (m : ListenNo) : (s.setPool p).listenAt m = s.listenAt m := rfl
@[simp] theorem listenAt_setAttention (t : Attention) (m : ListenNo) : (s.setAttention t).listenAt m = s.listenAt m := rfl
@[simp] theorem bufferStateAt_setAttention (t : Attention) (x : BufferNo) :
    (s.setAttention t).bufferStateAt x = s.bufferStateAt x := rfl
@[simp] theorem bufferByte_setAttention (t : Attention) (x : BufferNo) (j : Nat) :
    (s.setAttention t).bufferByte x j = s.bufferByte x j := rfl
@[simp] theorem listenAt_dropKey (k : Key) (m : ListenNo) : (s.dropKey k).listenAt m = s.listenAt m := rfl
@[simp] theorem bufferStateAt_dropKey (k : Key) (x : BufferNo) :
    (s.dropKey k).bufferStateAt x = s.bufferStateAt x := rfl
@[simp] theorem bufferByte_dropKey (k : Key) (x : BufferNo) (j : Nat) :
    (s.dropKey k).bufferByte x j = s.bufferByte x j := rfl
@[simp] theorem listenAt_giveBack (n : Nat) (m : ListenNo) : (s.giveBack n).listenAt m = s.listenAt m := rfl
@[simp] theorem listenAt_complete (c : Completion) (m : ListenNo) : (s.complete c).listenAt m = s.listenAt m := rfl
@[simp] theorem bufferStateAt_complete (c : Completion) (x : BufferNo) :
    (s.complete c).bufferStateAt x = s.bufferStateAt x := rfl
@[simp] theorem bufferByte_complete (c : Completion) (x : BufferNo) (j : Nat) :
    (s.complete c).bufferByte x j = s.bufferByte x j := rfl
@[simp] theorem listenAt_completeOk (q : Vector Word 4) (m : ListenNo) : (s.completeOk q).listenAt m = s.listenAt m := rfl
@[simp] theorem bufferStateAt_completeOk (q : Vector Word 4) (x : BufferNo) :
    (s.completeOk q).bufferStateAt x = s.bufferStateAt x := rfl
@[simp] theorem bufferByte_completeOk (q : Vector Word 4) (x : BufferNo) (j : Nat) :
    (s.completeOk q).bufferByte x j = s.bufferByte x j := rfl
@[simp] theorem listenAt_setLine (l : Line) (r : LineRecord) (m : ListenNo) : (s.setLine l r).listenAt m = s.listenAt m := by cases l <;> rfl
@[simp] theorem bufferStateAt_setLine (l : Line) (r : LineRecord) (x : BufferNo) :
    (s.setLine l r).bufferStateAt x = s.bufferStateAt x := by cases l <;> rfl
@[simp] theorem bufferByte_setLine (l : Line) (r : LineRecord) (x : BufferNo) (j : Nat) :
    (s.setLine l r).bufferByte x j = s.bufferByte x j := by cases l <;> rfl

@[simp] theorem setState_freeList (p : Pool) (b : BufferNo) (x : BufferState) : (p.setState b x).freeList = p.freeList := rfl
@[simp] theorem setState_reserved (p : Pool) (b : BufferNo) (x : BufferState) : (p.setState b x).reserved = p.reserved := rfl
@[simp] theorem setState_hostFloor (p : Pool) (b : BufferNo) (x : BufferState) :
    (p.setState b x).hostFloor = p.hostFloor := rfl
@[simp] theorem setState_refreshPtr (p : Pool) (b : BufferNo) (x : BufferState) :
    (p.setState b x).refreshPtr = p.refreshPtr := rfl
@[simp] theorem setState_select (p : Pool) (b : BufferNo) (x : BufferState) : (p.setState b x).select = p.select := rfl
@[simp] theorem setState_memory (p : Pool) (b : BufferNo) (x : BufferState) : (p.setState b x).memory = p.memory := rfl

theorem setState_get (p : Pool) (b c : BufferNo) (x : BufferState) :
    (p.setState b x).bufferState[c] = if c = b then x else p.bufferState[c] := by
  by_cases h : c = b
  · subst h; simp [Pool.setState]
  · have h' : b.val ≠ c.val := fun e => h (Fin.ext e.symm)
    simp [Pool.setState, h, h']

/-! ### The vector map that the kernel evaluates -/

@[simp] theorem mapVec_get {α β : Type} {n : Nat} (f : α → β) (v : Vector α n) (i : Nat) (h : i < n) :
    (mapVec f v)[i] = f v[i] := by
  simp [mapVec]

end Sys2Proof.Machine
end

