-- ==== Sys2Proof/Laws/Ops.lean ====
section
/-! SUPPORT. What the shared operations leave alone, and what each of them can do: the attention list, the reply queues, the
buffers, creation, entry to ENDED, and the refresh pass. -/

namespace Sys2Proof.Machine

variable (s : State)

/-! ### Raising a reason -/

@[simp] theorem raiseSlot_resetAsserted (i : Slot) (r : SlotReason) : (s.raiseSlot i r).resetAsserted = s.resetAsserted := by
  unfold State.raiseSlot; split <;> [rfl; (dsimp only; split <;> rfl)]
@[simp] theorem raiseSlot_dataOut (i : Slot) (r : SlotReason) : (s.raiseSlot i r).dataOut = s.dataOut := by
  unfold State.raiseSlot; split <;> [rfl; (dsimp only; split <;> rfl)]
@[simp] theorem raiseSlot_addressMap (i : Slot) (r : SlotReason) : (s.raiseSlot i r).addressMap = s.addressMap := by
  unfold State.raiseSlot; split <;> [rfl; (dsimp only; split <;> rfl)]
@[simp] theorem raiseSlot_listen (i : Slot) (r : SlotReason) : (s.raiseSlot i r).listen = s.listen := by
  unfold State.raiseSlot; split <;> [rfl; (dsimp only; split <;> rfl)]
@[simp] theorem raiseSlot_pool (i : Slot) (r : SlotReason) : (s.raiseSlot i r).pool = s.pool := by
  unfold State.raiseSlot; split <;> [rfl; (dsimp only; split <;> rfl)]
@[simp] theorem raiseSlot_lineA (i : Slot) (r : SlotReason) : (s.raiseSlot i r).lineA = s.lineA := by
  unfold State.raiseSlot; split <;> [rfl; (dsimp only; split <;> rfl)]
@[simp] theorem raiseSlot_lineB (i : Slot) (r : SlotReason) : (s.raiseSlot i r).lineB = s.lineB := by
  unfold State.raiseSlot; split <;> [rfl; (dsimp only; split <;> rfl)]
@[simp] theorem raiseSlot_timebase (i : Slot) (r : SlotReason) : (s.raiseSlot i r).timebase = s.timebase := by
  unfold State.raiseSlot; split <;> [rfl; (dsimp only; split <;> rfl)]
@[simp] theorem raiseSlot_controller (i : Slot) (r : SlotReason) : (s.raiseSlot i r).controller = s.controller := by
  unfold State.raiseSlot; split <;> [rfl; (dsimp only; split <;> rfl)]
@[simp] theorem raiseSlot_mailbox (i : Slot) (r : SlotReason) : (s.raiseSlot i r).mailbox = s.mailbox := by
  unfold State.raiseSlot; split <;> [rfl; (dsimp only; split <;> rfl)]
@[simp] theorem raiseSlot_flags (i : Slot) (r : SlotReason) : (s.raiseSlot i r).flags = s.flags := by
  unfold State.raiseSlot; split <;> [rfl; (dsimp only; split <;> rfl)]
@[simp] theorem raiseSlot_pending (i : Slot) (r : SlotReason) : (s.raiseSlot i r).pending = s.pending := by
  unfold State.raiseSlot; split <;> [rfl; (dsimp only; split <;> rfl)]
@[simp] theorem raiseLine_resetAsserted (l : Line) (r : LineReason) : (s.raiseLine l r).resetAsserted = s.resetAsserted := by
  unfold State.raiseLine; dsimp only; split <;> cases l <;> rfl
@[simp] theorem raiseLine_dataOut (l : Line) (r : LineReason) : (s.raiseLine l r).dataOut = s.dataOut := by
  unfold State.raiseLine; dsimp only; split <;> cases l <;> rfl
@[simp] theorem raiseLine_table (l : Line) (r : LineReason) : (s.raiseLine l r).table = s.table := by
  unfold State.raiseLine; dsimp only; split <;> cases l <;> rfl
@[simp] theorem raiseLine_addressMap (l : Line) (r : LineReason) : (s.raiseLine l r).addressMap = s.addressMap := by
  unfold State.raiseLine; dsimp only; split <;> cases l <;> rfl
@[simp] theorem raiseLine_listen (l : Line) (r : LineReason) : (s.raiseLine l r).listen = s.listen := by
  unfold State.raiseLine; dsimp only; split <;> cases l <;> rfl
@[simp] theorem raiseLine_pool (l : Line) (r : LineReason) : (s.raiseLine l r).pool = s.pool := by
  unfold State.raiseLine; dsimp only; split <;> cases l <;> rfl
@[simp] theorem raiseLine_timebase (l : Line) (r : LineReason) : (s.raiseLine l r).timebase = s.timebase := by
  unfold State.raiseLine; dsimp only; split <;> cases l <;> rfl
@[simp] theorem raiseLine_controller (l : Line) (r : LineReason) : (s.raiseLine l r).controller = s.controller := by
  unfold State.raiseLine; dsimp only; split <;> cases l <;> rfl
@[simp] theorem raiseLine_mailbox (l : Line) (r : LineReason) : (s.raiseLine l r).mailbox = s.mailbox := by
  unfold State.raiseLine; dsimp only; split <;> cases l <;> rfl
@[simp] theorem raiseLine_flags (l : Line) (r : LineReason) : (s.raiseLine l r).flags = s.flags := by
  unfold State.raiseLine; dsimp only; split <;> cases l <;> rfl
@[simp] theorem raiseLine_pending (l : Line) (r : LineReason) : (s.raiseLine l r).pending = s.pending := by
  unfold State.raiseLine; dsimp only; split <;> cases l <;> rfl

@[simp] theorem line_raiseSlot (i : Slot) (r : SlotReason) (l : Line) : (s.raiseSlot i r).line l = s.line l := by
  cases l <;> simp [State.line]

@[simp] theorem assocAt_raiseLine (l : Line) (r : LineReason) (i : Slot) : (s.raiseLine l r).assocAt i = s.assocAt i := by
  simp [State.assocAt, State.slotRec]

@[simp] theorem generation_raiseSlot (i j : Slot) (r : SlotReason) :
    (s.raiseSlot i r).generation j = s.generation j := by
  unfold State.raiseSlot
  split
  · rfl
  · dsimp only
    split <;> simp

/-- The slot of a raised reason keeps its record but for the reason. -/
theorem assocAt_raiseSlot_self {i : Slot} {a : Assoc} (h : s.assocAt i = some a) (r : SlotReason) :
    (s.raiseSlot i r).assocAt i = some { a with reasons := a.reasons.raise r } := by
  unfold State.raiseSlot
  rw [h]
  dsimp only
  split <;> simp

/-- The other slots keep everything. -/
theorem slotRec_raiseSlot_of_ne {i j : Slot} (h : j ≠ i) (r : SlotReason) :
    (s.raiseSlot i r).slotRec j = s.slotRec j := by
  unfold State.raiseSlot
  split
  · rfl
  · dsimp only
    split <;> simp [slotRec_setAssoc_of_ne s h]

/-! ### Handing a reply -/

@[simp] theorem handReply_resetAsserted (l : Line) (r : Reply) : (s.handReply l r).resetAsserted = s.resetAsserted := by
  unfold State.handReply State.bumpTally; split <;> [rfl; (split <;> cases l <;> rfl)]
@[simp] theorem handReply_dataOut (l : Line) (r : Reply) : (s.handReply l r).dataOut = s.dataOut := by
  unfold State.handReply State.bumpTally; split <;> [rfl; (split <;> cases l <;> rfl)]
@[simp] theorem handReply_table (l : Line) (r : Reply) : (s.handReply l r).table = s.table := by
  unfold State.handReply State.bumpTally; split <;> [rfl; (split <;> cases l <;> rfl)]
@[simp] theorem handReply_addressMap (l : Line) (r : Reply) : (s.handReply l r).addressMap = s.addressMap := by
  unfold State.handReply State.bumpTally; split <;> [rfl; (split <;> cases l <;> rfl)]
@[simp] theorem handReply_listen (l : Line) (r : Reply) : (s.handReply l r).listen = s.listen := by
  unfold State.handReply State.bumpTally; split <;> [rfl; (split <;> cases l <;> rfl)]
@[simp] theorem handReply_pool (l : Line) (r : Reply) : (s.handReply l r).pool = s.pool := by
  unfold State.handReply State.bumpTally; split <;> [rfl; (split <;> cases l <;> rfl)]
@[simp] theorem handReply_timebase (l : Line) (r : Reply) : (s.handReply l r).timebase = s.timebase := by
  unfold State.handReply State.bumpTally; split <;> [rfl; (split <;> cases l <;> rfl)]
@[simp] theorem handReply_controller (l : Line) (r : Reply) : (s.handReply l r).controller = s.controller := by
  unfold State.handReply State.bumpTally; split <;> [rfl; (split <;> cases l <;> rfl)]
@[simp] theorem handReply_mailbox (l : Line) (r : Reply) : (s.handReply l r).mailbox = s.mailbox := by
  unfold State.handReply State.bumpTally; split <;> [rfl; (split <;> cases l <;> rfl)]
@[simp] theorem handReply_flags (l : Line) (r : Reply) : (s.handReply l r).flags = s.flags := by
  unfold State.handReply State.bumpTally; split <;> [rfl; (split <;> cases l <;> rfl)]
@[simp] theorem handReply_attention (l : Line) (r : Reply) : (s.handReply l r).attention = s.attention := by
  unfold State.handReply State.bumpTally; split <;> [rfl; (split <;> cases l <;> rfl)]
@[simp] theorem handReply_pending (l : Line) (r : Reply) : (s.handReply l r).pending = s.pending := by
  unfold State.handReply State.bumpTally; split <;> [rfl; (split <;> cases l <;> rfl)]

@[simp] theorem slotRec_handReply (l : Line) (r : Reply) (i : Slot) : (s.handReply l r).slotRec i = s.slotRec i := by
  simp [State.slotRec]

@[simp] theorem assocAt_handReply (l : Line) (r : Reply) (i : Slot) : (s.handReply l r).assocAt i = s.assocAt i := by
  simp [State.assocAt]

@[simp] theorem generation_handReply (l : Line) (r : Reply) (i : Slot) :
    (s.handReply l r).generation i = s.generation i := by
  simp [State.generation]

/-- The other line keeps its record. -/
theorem line_handReply_of_ne {l m : Line} (h : m ≠ l) (r : Reply) : (s.handReply l r).line m = s.line m := by
  unfold State.handReply State.bumpTally
  split
  · rfl
  · split <;> exact line_setLine_of_ne s h _

/-- A handed reply changes the reply queue and the REPLY_DROP tally of its line alone. -/
theorem line_handReply_self (l : Line) (r : Reply) : ∃ q t, (s.handReply l r).line l =
    { s.line l with replies := q, tallies := { (s.line l).tallies with replyDrop := t } } := by
  unfold State.handReply State.bumpTally
  split
  · exact ⟨_, _, rfl⟩
  · split
    · exact ⟨_, _, line_setLine_self s l _⟩
    · exact ⟨_, _, line_setLine_self s l _⟩

/-- The transmitter of a line is untouched by replies, so the buffer in flight is the same. -/
@[simp] theorem inFlight_handReply (l m : Line) (r : Reply) : (s.handReply l r).inFlight m = s.inFlight m := by
  by_cases h : m = l
  · subst h
    obtain ⟨q, t, e⟩ := line_handReply_self s m r
    simp [State.inFlight, e]
  · simp [State.inFlight, line_handReply_of_ne s h]

/-! ### The refresh pass -/

/-- A pass changes slots, the reserved count and the refresh pointer, and nothing else (R132). -/
theorem passLoop_frame (slots : List Slot) : ∀ (n : Nat) (s : State), passLoop slots n s =
    { s with table := (passLoop slots n s).table,
             pool := { s.pool with reserved := (passLoop slots n s).pool.reserved,
                                   refreshPtr := (passLoop slots n s).pool.refreshPtr } } := by
  induction slots with
  | nil => intro n s; rfl
  | cons i rest ih =>
    intro n s
    unfold passLoop
    split
    · exact ih n s
    · dsimp only
      split
      · exact ih n s
      · rw [ih]
        rfl

/-- What a pass may do to a record: raise G, and owe RECEIPT (R96). -/
theorem passLoop_slot (slots : List Slot) : ∀ (n : Nat) (s : State) (i : Slot),
    (passLoop slots n s).generation i = s.generation i ∧
    (s.assocAt i = none → (passLoop slots n s).assocAt i = none) ∧
    ∀ a, s.assocAt i = some a → ∃ g x, a.grant ≤ g ∧ (passLoop slots n s).assocAt i =
      some { a with grant := g, pendingControl := { a.pendingControl with receipt := x } } := by
  induction slots with
  | nil => intro n s i; exact ⟨rfl, id, fun a h => ⟨a.grant, a.pendingControl.receipt, le_refl _, h⟩⟩
  | cons j rest ih =>
    intro n s i
    unfold passLoop
    split
    · exact ih n s i
    · rename_i b hb
      dsimp only
      split
      · exact ih n s i
      · obtain ⟨h1, h2, h3⟩ := ih (n - min b.wants n)
          ((s.raiseGrant j b (min b.wants n)).setPool
            { (s.raiseGrant j b (min b.wants n)).pool with refreshPtr := j }) i
        refine ⟨h1.trans (by simp [State.raiseGrant]), fun h => h2 ?_, fun a h => ?_⟩
        · have hij : i ≠ j := fun e => by rw [e, hb] at h; cases h
          simpa [State.raiseGrant, assocAt_setAssoc_of_ne s hij] using h
        · by_cases hij : i = j
          · subst hij
            rw [hb] at h
            cases h
            obtain ⟨g, x, hg, e⟩ := h3 (b.raised (min b.wants n)) (by simp [State.raiseGrant])
            refine ⟨g, x, le_trans ?_ hg, e.trans ?_⟩
            · unfold Assoc.raised Assoc.oweIf Assoc.owe
              dsimp only
              split <;> exact Nat.le_add_right _ _
            · unfold Assoc.raised Assoc.oweIf Assoc.owe
              dsimp only
              split <;> rfl
          · exact h3 a (by simpa [State.raiseGrant, assocAt_setAssoc_of_ne s hij] using h)

@[simp] theorem refreshPass_resetAsserted : s.refreshPass.resetAsserted = s.resetAsserted := by
  unfold State.refreshPass; rw [passLoop_frame]
@[simp] theorem refreshPass_dataOut : s.refreshPass.dataOut = s.dataOut := by
  unfold State.refreshPass; rw [passLoop_frame]
@[simp] theorem refreshPass_addressMap : s.refreshPass.addressMap = s.addressMap := by
  unfold State.refreshPass; rw [passLoop_frame]
@[simp] theorem refreshPass_listen : s.refreshPass.listen = s.listen := by
  unfold State.refreshPass; rw [passLoop_frame]
@[simp] theorem refreshPass_lineA : s.refreshPass.lineA = s.lineA := by
  unfold State.refreshPass; rw [passLoop_frame]
@[simp] theorem refreshPass_lineB : s.refreshPass.lineB = s.lineB := by
  unfold State.refreshPass; rw [passLoop_frame]
@[simp] theorem refreshPass_timebase : s.refreshPass.timebase = s.timebase := by
  unfold State.refreshPass; rw [passLoop_frame]
@[simp] theorem refreshPass_controller : s.refreshPass.controller = s.controller := by
  unfold State.refreshPass; rw [passLoop_frame]
@[simp] theorem refreshPass_mailbox : s.refreshPass.mailbox = s.mailbox := by
  unfold State.refreshPass; rw [passLoop_frame]
@[simp] theorem refreshPass_flags : s.refreshPass.flags = s.flags := by
  unfold State.refreshPass; rw [passLoop_frame]
@[simp] theorem refreshPass_attention : s.refreshPass.attention = s.attention := by
  unfold State.refreshPass; rw [passLoop_frame]
@[simp] theorem refreshPass_pending : s.refreshPass.pending = s.pending := by
  unfold State.refreshPass; rw [passLoop_frame]

@[simp] theorem line_refreshPass (l : Line) : s.refreshPass.line l = s.line l := by
  cases l <;> simp [State.line]

/-- A pass leaves the pool but for the reserved count and the refresh pointer (R132). -/
theorem refreshPass_pool : s.refreshPass.pool =
    { s.pool with reserved := s.refreshPass.pool.reserved, refreshPtr := s.refreshPass.pool.refreshPtr } := by
  unfold State.refreshPass; rw [passLoop_frame]

@[simp] theorem bufferStateAt_refreshPass (b : BufferNo) : s.refreshPass.bufferStateAt b = s.bufferStateAt b := by
  unfold State.bufferStateAt; rw [refreshPass_pool]

@[simp] theorem bufferByte_refreshPass (b : BufferNo) (k : Nat) : s.refreshPass.bufferByte b k = s.bufferByte b k := by
  unfold State.bufferByte; rw [refreshPass_pool]

/-! ### Returned buffers -/

/-- A returned buffer is FREE at the tail of the free list, and the claim holds a trigger (R126, R133). -/
theorem returnBuffer_st (c : Claim) (b : BufferNo) : (c.returnBuffer b).st = c.st.setPool { c.st.pool with
    bufferState := c.st.pool.bufferState.set b .free, freeList := c.st.pool.freeList ++ [b] } := rfl

/-- Released entries change the pool and the trigger alone: buffer states and the free list (R74, R20). -/
theorem releaseAll_frame (l : Line) (es : List SendEntry) : ∀ c : Claim,
    (Claim.releaseAll l es c).st = c.st.setPool { c.st.pool with
      bufferState := (Claim.releaseAll l es c).st.pool.bufferState,
      freeList := (Claim.releaseAll l es c).st.pool.freeList } ∧
    (Claim.releaseAll l es c).served = c.served := by
  induction es with
  | nil => intro c; exact ⟨rfl, rfl⟩
  | cons e rest ih =>
    intro c
    obtain ⟨h1, h2⟩ := ih (c.releaseOutbound l e.buffer)
    unfold Claim.releaseAll
    refine ⟨?_, ?_⟩
    · rw [h1]
      unfold Claim.releaseOutbound
      split <;> rfl
    · rw [h2]
      unfold Claim.releaseOutbound
      split <;> rfl

/-! ### The latched command and its handle -/

/-- The completion of a latched command runs with its latched parameters. -/
theorem onLatched_of_latches {code : Byte} {p : Vector Word 6} (f : Vector Word 6 → State)
    (h : s.mailbox.latched = some { code := code, params := p }) : s.onLatched code f = f p := by
  simp [State.onLatched, h]

/-- A command that is not latched does not complete. -/
theorem onLatched_of_not {code : Byte} (f : Vector Word 6 → State)
    (h : ∀ p, s.mailbox.latched ≠ some { code := code, params := p }) : s.onLatched code f = s := by
  unfold State.onLatched
  split
  · rfl
  · rename_i m hm
    split
    · rename_i hc
      exact absurd (hm.trans (by rw [← hc])) (h m.params)
    · rfl

/-- A handle is current exactly when it names an occupied slot with the slot's generation (R5). -/
theorem current_eq_some {h : Word} {i : Slot} {a : Assoc} : s.current h = some (i, a) ↔
    fieldNat h 0 8 = i.val ∧ h.extractLsb' 16 16 = s.generation i ∧ s.assocAt i = some a := by
  unfold State.current slotOfField
  by_cases hv : fieldNat h 0 8 < 64
  · simp only [hv, dif_pos]
    constructor
    · intro e
      split at e
      · cases e
      · rename_i b hb
        split at e
        · rename_i hg
          cases e
          exact ⟨rfl, hg.symm, hb⟩
        · cases e
    · rintro ⟨h1, h2, h3⟩
      have hi : (⟨fieldNat h 0 8, hv⟩ : Slot) = i := Fin.ext h1
      rw [hi, h3]
      simp [h2]
  · simp only [hv, dif_neg, not_false_eq_true]
    constructor
    · intro e; cases e
    · rintro ⟨h1, -, -⟩
      have := i.isLt
      omega

end Sys2Proof.Machine
end

