-- ==== Sys2Proof/Laws/Timers.lean ====
section
/-! SUPPORT. What a tick at a timer can do, and the conditions of timers and of sending as the rules word them. -/

namespace Sys2Proof.Machine

variable (s : State)

/-! ### `noteTick` and `closeTick` -/

@[simp] theorem noteTick_resetAsserted (x : TimerName) : (s.noteTick x).resetAsserted = s.resetAsserted := rfl
@[simp] theorem noteTick_dataOut (x : TimerName) : (s.noteTick x).dataOut = s.dataOut := rfl
@[simp] theorem noteTick_table (x : TimerName) : (s.noteTick x).table = s.table := rfl
@[simp] theorem noteTick_addressMap (x : TimerName) : (s.noteTick x).addressMap = s.addressMap := rfl
@[simp] theorem noteTick_listen (x : TimerName) : (s.noteTick x).listen = s.listen := rfl
@[simp] theorem noteTick_pool (x : TimerName) : (s.noteTick x).pool = s.pool := rfl
@[simp] theorem noteTick_lineA (x : TimerName) : (s.noteTick x).lineA = s.lineA := rfl
@[simp] theorem noteTick_lineB (x : TimerName) : (s.noteTick x).lineB = s.lineB := rfl
@[simp] theorem noteTick_controller (x : TimerName) : (s.noteTick x).controller = s.controller := rfl
@[simp] theorem noteTick_mailbox (x : TimerName) : (s.noteTick x).mailbox = s.mailbox := rfl
@[simp] theorem noteTick_flags (x : TimerName) : (s.noteTick x).flags = s.flags := rfl
@[simp] theorem noteTick_attention (x : TimerName) : (s.noteTick x).attention = s.attention := rfl
@[simp] theorem noteTick_pending (x : TimerName) : (s.noteTick x).pending = s.pending := rfl

@[simp] theorem closeTick_resetAsserted : s.closeTick.resetAsserted = s.resetAsserted := rfl
@[simp] theorem closeTick_dataOut : s.closeTick.dataOut = s.dataOut := rfl
@[simp] theorem closeTick_table : s.closeTick.table = s.table := rfl
@[simp] theorem closeTick_addressMap : s.closeTick.addressMap = s.addressMap := rfl
@[simp] theorem closeTick_listen : s.closeTick.listen = s.listen := rfl
@[simp] theorem closeTick_pool : s.closeTick.pool = s.pool := rfl
@[simp] theorem closeTick_lineA : s.closeTick.lineA = s.lineA := rfl
@[simp] theorem closeTick_lineB : s.closeTick.lineB = s.lineB := rfl
@[simp] theorem closeTick_controller : s.closeTick.controller = s.controller := rfl
@[simp] theorem closeTick_mailbox : s.closeTick.mailbox = s.mailbox := rfl
@[simp] theorem closeTick_flags : s.closeTick.flags = s.flags := rfl
@[simp] theorem closeTick_attention : s.closeTick.attention = s.attention := rfl
@[simp] theorem closeTick_pending : s.closeTick.pending = s.pending := rfl
@[simp] theorem closeTick_timebase : s.closeTick.timebase = { s.timebase with taken := none } := rfl

@[simp] theorem assocAt_noteTick (x : TimerName) (i : Slot) : (s.noteTick x).assocAt i = s.assocAt i := rfl
@[simp] theorem generation_noteTick (x : TimerName) (i : Slot) : (s.noteTick x).generation i = s.generation i := rfl
@[simp] theorem line_noteTick (x : TimerName) (l : Line) : (s.noteTick x).line l = s.line l := by cases l <;> rfl
@[simp] theorem timerAt_noteTick (x y : TimerName) : (s.noteTick x).timerAt y = s.timerAt y := by
  cases y with
  | grace l => cases l <;> rfl
  | assocState _ | receipt _ | holdoff => rfl

@[simp] theorem lineCounts_noteTick (x : TimerName) (l : Line) : (s.noteTick x).lineCounts l = s.lineCounts l := by
  cases l <;> rfl

@[simp] theorem mayCount_noteTick (x y : TimerName) : (s.noteTick x).mayCount y = s.mayCount y := by
  cases y with
  | assocState i => simp [State.mayCount]
  | receipt i => simp [State.mayCount]
  | grace l => rfl
  | holdoff => rfl

/-- A tick noted is the tick of the statements noted. -/
theorem noteTick_eq_tickNoted (x : TimerName) : s.noteTick x = s.tickNoted x := by
  cases h : s.timebase.taken <;> simp [State.noteTick, State.tickNoted, h]

/-! ### What a tick at one timer can do -/

/-- Ticks can occur exactly when the reset input is released and the interval is not 0. -/
theorem ticks_iff : s.ticks = true ↔ s.resetAsserted = false ∧ s.timebase.interval ≠ 0 := by
  simp [State.ticks]

/-- A tick may be taken at a timer exactly when ticks can occur and the timer has not taken this one. -/
theorem tickOpen_iff (x : TimerName) : s.tickOpen x ↔ s.ticks = true ∧ s.tookTick x = false := by
  cases h : s.timebase.taken <;> simp [State.tickOpen, State.tookTick, State.ticks, h, and_assoc]

/-- The tick at one timer: nothing where it may not be taken, else noted, and the timer is reached. -/
theorem tickAt_cases (x : TimerName) :
    (¬ s.tickOpen x ∧ s.tickAt x = s) ∨ (s.tickOpen x ∧ s.tickAt x = (s.tickNoted x).reach x) := by
  by_cases h : s.tickOpen x
  · refine Or.inr ⟨h, ?_⟩
    obtain ⟨h1, h2⟩ := (tickOpen_iff s x).1 h
    simp [State.tickAt, h1, h2, noteTick_eq_tickNoted]
  · refine Or.inl ⟨h, if_neg fun hb => h ((tickOpen_iff s x).2 ?_)⟩
    simpa using hb

/-- A timer that a tick reaches is stopped or frozen and keeps all, or counts down, or expires (R155, R156). -/
theorem reach_cases (x : TimerName) :
    ((s.timerAt x = .stopped ∨ s.mayCount x = false) ∧ s.reach x = s) ∨
    ∃ n, s.timerAt x = .counting n ∧ s.mayCount x = true ∧
      ((2 ≤ n ∧ s.reach x = s.setTimer (.counting (n - 1)) x) ∨ (n ≤ 1 ∧ s.reach x = s.expire x)) := by
  unfold State.reach
  cases ht : s.timerAt x with
  | stopped => exact Or.inl ⟨Or.inl rfl, rfl⟩
  | counting n =>
    cases hc : s.mayCount x with
    | false => exact Or.inl ⟨Or.inr rfl, by simp⟩
    | true =>
      refine Or.inr ⟨n, rfl, rfl, ?_⟩
      rcases Nat.lt_or_ge 1 n with h | h
      · exact Or.inl ⟨h, by simp [Nat.not_le.2 h]⟩
      · exact Or.inr ⟨h, by simp [h]⟩

/-- An expiry row is the tick at its timer where that expires it and the owner is as the row says, else nothing. -/
theorem expiryAt_cases (x : TimerName) (owner : Bool) :
    (owner = true ∧ s.expiresAt x = true ∧ s.expiryAt x owner = s.tickAt x) ∨
    ((owner = false ∨ s.expiresAt x = false) ∧ s.expiryAt x owner = s) := by
  unfold State.expiryAt
  cases owner <;> cases s.expiresAt x <;> simp

/-- With no tick being taken timer by timer there is none to finish. -/
theorem finishTick_of_none (h : s.timebase.taken = none) : s.finishTick = s := by
  simp [State.finishTick, h]

/-! ### Conditions as the rules word them -/

/-- The model's test of a stall is that of R72. -/
theorem stalled_iff (a : Assoc) : a.stalled = true ↔ a.IsStalled := by
  simp only [Assoc.stalled, Assoc.hasUnsent, Bool.and_eq_true, decide_eq_true_eq, and_assoc]
  exact Iff.rfl

/-- The model's test of the timer that is needed is that of R72. -/
theorem timerNeeded_iff (a : Assoc) : a.timerNeeded = true ↔ a.NeedsTimer := by
  simp only [Assoc.timerNeeded, Bool.or_eq_true, decide_eq_true_eq, stalled_iff]
  exact Iff.rfl

/-- The states that send are OPEN and DRAINING (R69). -/
theorem sends_iff (st : AssocState) : st.sends = true ↔ st = .opened ∨ st = .draining := by
  cases st <;> simp [AssocState.sends]

/-- Association timers of a line count as R156 says. -/
theorem lineCounts_iff (l : Line) : s.lineCounts l = true ↔ s.TimersCount l := by
  simp [State.lineCounts, State.running]

end Sys2Proof.Machine
end

