-- ==== Sys2Proof/Tests/Slice0.lean ====
section
/-! SUPPORT. Tests: the well-formedness checks, values that the spec's text gives, one step of each command on a small state, and,
for each statement with hypotheses, a theorem `witness_…` that meets them. -/

namespace Sys2Proof.Tests

set_option Elab.async false

open Sys2Proof Sys2Proof.Machine

/-! ### Small states -/

/-- A line with carrier, ACTIVE. -/
def activeLine : LineRecord := { LineRecord.reset true with state := .active }

/-- Both lines ACTIVE, the controller RUNNING, nothing else since the reset. -/
def base : State := { State.reset with controller := .running, lineA := activeLine, lineB := activeLine }

/-- The parameters of the worked record of chapter 1. -/
def params : Params :=
  { inboundLimit := 128, window := 4, sendQueueLimit := 8, inboundQuota := 4, resendPeriod := 10, retryLimit := 3,
    receiptDelay := 2 }

/-- The key A/5/3. -/
def key : Key := { line := .a, station := 5, an := 3 }

/-- An association of line A, station 5, AN 3, epoch 7 in a state. -/
def record (st : AssocState) : Assoc := .fresh st key 7 .host params (some 100) none 0

/-- The record with one message, tag 0 in buffer 0, submitted and credit for two. -/
def loaded (st : AssocState) : Assoc :=
  { record st with sendQueue := [{ tag := 0, buffer := 0, length := 3 }], submitTag := 1, peerLimit := 2 }

/-- The state with an association in slot 2, generation 9. -/
def holding (a : Assoc) : State :=
  { base.setSlotRec 2 { generation := 9, assoc := some a } with addressMap := [{ key := a.key, slot := 2 }] }

/-- The handle of that association. -/
def handle : Word := 0x00090002

/-- Parameter words with P0 alone. -/
def words (p0 : Word) : Vector Word 6 := #v[p0, 0, 0, 0, 0, 0]

/-- The state with a command latched. -/
def latching (s : State) (code : Byte) (p : Vector Word 6) : State :=
  { s with mailbox := { s.mailbox with latched := some { code := code, params := p } } }

/-- The state with one delivered frame waiting on line A. -/
def hearing (s : State) (bytes : List Byte) : State := s.setLine .a { s.lineA with arrived := [{ bytes := bytes }] }

/-- The frame from station 5, AN 3, with an epoch. -/
def frame (epoch : Byte) (body : FrameBody) : Frame := { station := 5, an := 3, epoch := epoch, body := body }

/-- The next state, if there is one. -/
def after : Host.Outcome State Fault Refusal → Option State
  | .next t => some t
  | .fault _ => none
  | .refused _ => none

/-- Only slot 2 of `holding` is occupied. -/
theorem holding_only {a : Assoc} {j : Slot} {b : Assoc} (h : (holding a).assocAt j = some b) : j = 2 ∧ b = a := by
  by_cases hj : j = 2
  · subst hj
    have : (holding a).assocAt 2 = some a := assocAt_setSlotRec_self base 2 _
    rw [this] at h
    exact ⟨rfl, (Option.some.inj h).symm⟩
  · have : (holding a).assocAt j = base.assocAt j := assocAt_setSlotRec_of_ne base hj _
    rw [this] at h
    simp [State.assocAt, State.slotRec, base, State.reset, SlotRecord.reset] at h

/-- No slot of `base` is occupied. -/
theorem base_empty (j : Slot) : base.assocAt j = none := by
  simp [State.assocAt, State.slotRec, base, State.reset, SlotRecord.reset]

/-! ### Well-formedness: an ill-formed command for each check -/

theorem test_wf_frame_arrival_single_mark : (Instr.frameArrival .a [0x01, 0xB4, 0x05]).wellFormed = false := by decide
theorem test_wf_frame_arrival_open_mark : (Instr.frameArrival .a [0x01, 0xB4]).wellFormed = false := by decide
theorem test_wf_frame_arrival_escaped_mark : (Instr.frameArrival .a [0x01, 0xB4, 0xB4, 0x05]).wellFormed = true := by decide
theorem test_wf_abort_coded : (Instr.frameAborted .a [0xB4, 0x02] .abortPattern).wellFormed = false := by decide
theorem test_wf_abort_violation_is_none : (Instr.frameAborted .a [] (.violation 0x03)).wellFormed = false := by decide
theorem test_wf_abort_violation : (Instr.frameAborted .a [] (.violation 0x04)).wellFormed = true := by decide
theorem test_wf_port_lanes : (Instr.attentionPortRead 0b0101).wellFormed = false := by decide
theorem test_wf_window_read_word : (Instr.bufferWindowRead 60 0b1111).wellFormed = false := by decide
theorem test_wf_window_read_lanes : (Instr.bufferWindowRead 59 0b0110).wellFormed = false := by decide
theorem test_wf_window_write_word : (Instr.bufferWindowWrite 63 0b0001 0).wellFormed = false := by decide
theorem test_wf_window_write_lanes : (Instr.bufferWindowWrite 0 0b0000 0).wellFormed = false := by decide
theorem test_wf_register_write_lanes : (Instr.registerWrite 8 0b1110 0).wellFormed = false := by decide
theorem test_wf_register_write : (Instr.registerWrite 8 0b1100 0).wellFormed = true := by decide

/-! ### Values of the spec's text -/

/-- No row of the table gives bits, so no word spells a command. -/
theorem test_no_word_decodes : decodeTableWord 32 0x20 = none := by decide

/-- R6: epochs of generations 1, 254, 255 and 65535. -/
theorem test_host_epochs : hostEpoch 1 = 2 ∧ hostEpoch 254 = 255 ∧ hostEpoch 255 = 1 ∧ hostEpoch 65535 = 1 := by decide

/-- R189: the packing example of an OPEN on line B for station 17, AN 3. -/
theorem test_open_packing : openOperands #v[0x00031102, 0x04080480, 0x0002030A, 0, 0, 0] =
    some ({ line := .b, station := 17, an := 3 }, params) := by decide

/-- R189: the handle (2, 7) of that example. -/
theorem test_handle_word : handleWord 2 7 = 0x00070002 := by decide

/-- R189: a listen entry after a device reset. -/
theorem test_listen_reset_words : (listenWords ListenEntry.reset)[0] = 0x32001000 ∧
    (listenWords ListenEntry.reset)[3] = 0x02030A04 := by decide

/-- R190: the notice of slot 22, generation 5, with DRAINED and ENDED. -/
theorem test_notice_word : noticeWord (some (.slot 22 5 ⟨false, false, false, true, true⟩)) = 0x00051816 := by decide

/-- R190: an empty list. -/
theorem test_notice_none : noticeWord none = 0x000000FF := by decide

/-- R27: the check value of CRC-16 with this polynomial and preset over the text 123456789. -/
theorem test_check_value :
    crcBytes 0xFFFF [0x31, 0x32, 0x33, 0x34, 0x35, 0x36, 0x37, 0x38, 0x39] = 0x29B1 := by decide +kernel

/-- R26: a mark byte in the payload is sent twice. -/
theorem test_escape : escape [0x01, 0xB4, 0x02] = [0x01, 0xB4, 0xB4, 0x02] := by decide

/-- R31: the fields of an OPEN-REQUEST from station 17, AN 3, epoch 8, receive limit 240, credit 4. -/
theorem test_parse_open_request : parseFrame [0, 17, 0x11, 3, 8, 240, 4] =
    some { station := 17, an := 3, epoch := 8, body := .openRequest 240 4 } := by decide

/-- R34: a CLOSE of eight bytes is read, one of nine is malformed. -/
theorem test_parse_close : parseFrame [0, 17, 0x31, 3, 8, 5] = some { station := 17, an := 3, epoch := 8, body := .close 5 } ∧
    parseFrame [0, 17, 0x31, 3, 8, 5, 0] = none := by decide

/-- R188: the offsets of the first and last words of some blocks of the map. -/
theorem test_register_map : regAt 0 = some .control ∧ regAt 6 = none ∧ regAt 8 = some .command ∧
    regAt 17 = some (.param 5) ∧ regAt 24 = some .attentionPort ∧ regAt 123 = some (.window 59) ∧ regAt 124 = none ∧
    regAt 130 = some (.lineGrace .a) ∧ regAt 131 = none ∧ regAt 169 = some (.tallyClear .b) := by decide

/-! ### One step of each command -/

theorem test_carrier_loss : (after (exec (.carrierLoss .a) base)).map (fun t => ((t.line .a).state, (t.line .a).graceTimer,
    t.attention.list)) = some (.suspended, .counting 20, [.line .a]) := by decide +kernel

theorem test_carrier_return : (after (exec (.carrierReturn .b) (base.setLine .b { activeLine with
    state := .down, carrier := false }))).map (fun t => ((t.line .b).state, (t.line .b).reasons.restored)) =
    some (.active, true) := by decide +kernel

theorem test_device_reset_keeps_carrier : (after (exec (.deviceReset .pulse) base)).map
    (fun t => (t.readReg (.lineStatus .a), t.readReg .poolStatus)) = some (0x3F3F0010, 0x003F0080) := by decide +kernel

/-- A PROBE of station 17, AN 3, epoch 8 on the wire, received whole. -/
theorem test_frame_arrival : (after (exec (.startPattern .a [true, false, true]) base)).bind (fun s =>
    (after (exec (.frameArrival .a (codedBody [0, 17, 0x22, 3, 8])) s)).map fun t => (t.line .a).arrived) =
    some [{ bytes := [0, 17, 0x22, 3, 8] }] := by decide +kernel

theorem test_frame_aborted : (after (exec (.startPattern .a []) base)).bind (fun s =>
    (after (exec (.frameAborted .a [0, 17] .startPattern) s)).map fun t => ((t.line .a).tallies.check, (t.line .a).rx)) =
    some (1, .collecting [] 0xFFFF 0 false 0 0) := by decide +kernel

/-- R37: a DATA frame of no association is answered with DISOWN. -/
theorem test_dispatch_disowns : (after (exec (.receiveDispatch .a) (hearing base [0, 12, 0x20, 0, 33, 0, 1]))).map
    (fun t => (t.line .a).replies) = some [{ kind := .disown, station := 12, an := 0, epoch := 33 }] := by decide +kernel

/-- R88: expected DATA takes the free-list head. -/
theorem test_dispatch_accepts : (after (exec (.receiveDispatch .a) (hearing (holding { record .opened with grant := 2 })
    [0, 5, 0x20, 3, 7, 0, 0xAA]))).bind (fun t => (t.assocAt 2).map fun a =>
      (a.expected, a.grant, a.inboundQueue.map (·.buffer), t.bufferByte 0 0, a.receiptTimer)) =
    some (1, 1, [0], 0xAA, .counting 2) := by decide +kernel

/-- R32: the CLOSE-CONFIRM reply on the wire, between its patterns. -/
theorem test_begin_reply : (after (exec (.transmissionBegin .a) (base.setLine .a { activeLine with
    replies := [{ kind := .closeConfirm, station := 40, an := 2, epoch := 9 }] }))).map
    (fun t => ((t.line .a).burst, (t.line .a).txOut)) =
    some (1, .transmission ([0xB4, 0x01] ++ codedBody [40, 0, 0x32, 2, 9] ++ [0xB4, 0x02])) := by decide +kernel

theorem test_begin_data : (after (exec (.transmissionBegin .a) (holding (loaded .opened)))).bind (fun t =>
    (t.assocAt 2).map fun a => (a.nextToSend, a.sentMark, t.inFlight .a, (t.line .a).dataPtr)) =
    some (1, 1, some 0, 2) := by decide +kernel

/-- The state in which slot 2's DATA frame is on line A. -/
def sendingData : State :=
  (holding { loaded .opened with nextToSend := 1, sentMark := 1 }).setLine .a { activeLine with
    tx := .sending { kind := .data, source := .association 2 9, buffer := some 0 } }

theorem test_completion_arms : (after (exec (.transmissionCompletion .a) sendingData)).bind (fun t =>
    (t.assocAt 2).map (·.stateTimer)) = some (.counting 10) := by decide +kernel

theorem test_cut_sends_abort : (after (exec (.transmissionCut .a) sendingData)).map (fun t => (t.line .a).txOut) =
    some .abortPattern := by decide +kernel

theorem test_tick_counts : (after (exec (.tick none) (holding { record .opened with stateTimer := .counting 2 }))).bind (fun t =>
    (t.assocAt 2).map (·.stateTimer)) = some (.counting 1) := by decide +kernel

/-- R155: the tick that takes the last remaining tick expires the timer in the same claim. -/
theorem test_tick_expires : (after (exec (.tick none) (holding { record .closing with stateTimer := .counting 1 }))).bind
    (fun t => (t.assocAt 2).map fun a => (a.stateTimer, a.retryCount, a.pendingControl.close)) =
    some (.stopped, 1, true) := by decide +kernel

theorem test_open_retry : (after (exec (.openRetryExpiry 2) (holding { record .opening with stateTimer := .counting 1 }))).bind
    (fun t => (t.assocAt 2).map fun a => (a.retryCount, a.pendingControl.openRequest)) = some (1, true) := by decide +kernel

theorem test_offer_expiry : (after (exec (.offerExpiry 2) (holding { record .offered with stateTimer := .counting 1 }))).bind
    (fun t => (t.assocAt 2).map fun a => (a.state, (t.line .a).replies.length)) =
    some (.ended .offerExpired, 1) := by decide +kernel

theorem test_resend_goes_back : (after (exec (.resendExpiry 2) (holding { loaded .opened with
    nextToSend := 1, sentMark := 1, stateTimer := .counting 1 }))).bind (fun t => (t.assocAt 2).map fun a =>
      (a.nextToSend, a.sentMark, a.retryCount)) = some (0, 1, 1) := by decide +kernel

theorem test_close_timer_gives_up : (after (exec (.closeTimerExpiry 2) (holding { record .closing with
    stateTimer := .counting 1, retryCount := 3 }))).bind (fun t => (t.assocAt 2).map fun a => (a.state, a.retryCount)) =
    some (.ended .noResponse, 4) := by decide +kernel

theorem test_receipt_timer : (after (exec (.receiptTimerExpiry 2) (holding { record .opened with receiptTimer := .counting 1 }))).bind
    (fun t => (t.assocAt 2).map fun a => (a.receiptTimer, a.pendingControl.receipt)) = some (.stopped, true) := by
  decide +kernel

theorem test_grace_expiry : (after (exec (.graceExpiry .a) ((holding (record .opened)).setLine .a { activeLine with
    state := .suspended, carrier := false, graceTimer := .counting 1 }))).map (fun t => ((t.line .a).state, t.attention.list)) =
    some (.down, [.slot 2, .line .a]) := by decide +kernel

theorem test_holdoff : (after (exec .holdoffExpiry { base with attention := { base.attention with
    holdoffTimer := .counting 1 } })).map (fun t => t.attention.indicator) = some true := by decide +kernel

/-- R189: the OPEN of the packing example completes with code OK and the handle of the lowest FREE slot. -/
theorem test_open : (after (exec .cmdOpen (latching base 0x10 #v[0x00031102, 0x04080480, 0x0002030A, 0, 0, 0]))).map
    (fun t => (t.readReg .mailboxStatus, t.readReg (.result 0), t.pool.reserved)) =
    some (0x00000000, 0x00010000, 4) := by decide +kernel

theorem test_accept : (after (exec .cmdAccept (latching (holding (record .offered)) 0x11 (words handle)))).bind (fun t =>
    (t.assocAt 2).map fun a => (a.state, a.grant, a.pendingControl.openAccept, t.attention.list)) =
    some (.opened, 4, true, [.slot 2]) := by decide +kernel

theorem test_refuse : (after (exec .cmdRefuse (latching (holding (record .offered)) 0x12 (words handle)))).bind (fun t =>
    (t.assocAt 2).map fun a => (a.state, (t.line .a).replies)) = some (.ended .refusedLocal,
      [{ kind := .openRefuse .refusedByHost, station := 5, an := 3, epoch := 7 }]) := by decide +kernel

theorem test_submit : (after (exec .cmdSubmit (latching ((holding (record .opened)).setPool
    (base.pool.setState 4 .host)) 0x20 #v[handle, 0x00640004, 0, 0, 0, 0]))).bind (fun t =>
    (t.assocAt 2).map fun a => (a.sendQueue, a.submitTag, t.mailbox.completion)) =
    some ([{ tag := 0, buffer := 4, length := 100 }], 1, some .ok) := by decide +kernel

theorem test_take : (after (exec .cmdTake (latching ((holding { record .opened with
    inboundQueue := [{ buffer := 33, length := 70 }] }).setPool (base.pool.setState 33 .inbound)) 0x21 (words handle)))).map
    (fun t => (t.bufferStateAt 33, t.readReg (.result 0), t.readReg (.result 1))) = some (.host, 33, 70) := by decide +kernel

theorem test_hold : (after (exec .cmdHold (latching (holding (record .opened)) 0x22 (words handle)))).bind (fun t =>
    (t.assocAt 2).map (·.hold)) = some true := by decide +kernel

theorem test_resume_raises : (after (exec .cmdResume (latching (holding { record .opened with hold := true }) 0x23
    (words handle)))).bind (fun t => (t.assocAt 2).map fun a => (a.hold, a.grant, t.pool.refreshPtr)) =
    some (false, 4, 2) := by decide +kernel

theorem test_close_drains : (after (exec .cmdClose (latching (holding (loaded .opened)) 0x30 (words handle)))).bind (fun t =>
    (t.assocAt 2).map (·.state)) = some .draining := by decide +kernel

theorem test_abort : (after (exec .cmdAbort (latching (holding (loaded .opened)) 0x31 (words handle)))).bind (fun t =>
    (t.assocAt 2).map fun a => (a.state, a.abandoned, t.addressMap)) = some (.ended .localAbort, 1, []) := by decide +kernel

theorem test_abort_group : (after (exec .cmdAbortGroup (latching (holding (record .opened)) 0x32 (words 0x003F0001)))).map
    (fun t => t.readReg (.result 0)) = some 1 := by decide +kernel

theorem test_release : (after (exec .cmdRelease (latching (holding { record (.ended .disowned) with
    inboundQueue := [{ buffer := 9, length := 1 }] }) 0x33 (words handle)))).map
    (fun t => (t.slotRec 2, t.pool.freeList.getLast?)) = some ({ generation := 9, assoc := none }, some 9) := by
  decide +kernel

theorem test_allocate : (after (exec .cmdAllocate (latching base 0x40 (words 0)))).map
    (fun t => (t.bufferStateAt 0, t.pool.freeList.head?, t.readReg (.result 0))) = some (.host, some 1, 0) := by
  decide +kernel

theorem test_free_twice : (after (exec .cmdFree (latching base 0x41 (words 2)))).map (fun t => t.mailbox.completion) =
    some (some .notOwner) := by decide +kernel

theorem test_query_free_slot : (after (exec .cmdQuery (latching base 0x50 (words 63)))).map (fun t => t.mailbox.results) =
    some #v[0, 0, 0, 0] := by decide +kernel

theorem test_set_listen : (after (exec .cmdSetListen (latching base 0x51
    #v[0x32001307, 0x0F003F00, 0x0804F00A, 0x02030A04, 0, 0]))).map (fun t => ((t.listenAt 7).enabled,
      (t.listenAt 7).mode, (t.listenAt 7).admissionLimit)) = some (true, .ask, 10) := by decide +kernel

theorem test_get_listen : (after (exec .cmdGetListen (latching base 0x52 (words 3)))).map
    (fun t => (t.readReg (.result 0), t.readReg (.result 3))) = some (0x32001000, 0x02030A04) := by decide +kernel

theorem test_bad_command : (after (exec .cmdBad (latching base 0x99 (words 0)))).map (fun t => t.mailbox.completion) =
    some (some .badCommand) := by decide +kernel

theorem test_start_cancels_stop : (after (exec .start { base with controller := .stopping })).map (·.controller) =
    some .running := by decide +kernel

theorem test_stop_waits : (after (exec .stop sendingData)).map (·.controller) = some .stopping := by decide +kernel

theorem test_clear_refused : (after (exec (.clear false false) base)).map (fun t => t.readReg .faultFlags) = some 0x4 := by
  decide +kernel

theorem test_clear_keeps_generation : (after (exec (.clear false false)
    { holding (record .opened) with controller := .stopped })).map (fun t => t.slotRec 2) =
    some { generation := 9, assoc := none } := by decide +kernel

theorem test_line_enable_without_carrier : (after (exec (.lineEnable .b) State.reset)).map
    (fun t => (t.line .b).state) = some .down := by decide +kernel

theorem test_line_disable : (after (exec (.lineDisable .a) sendingData)).bind (fun t => (t.assocAt 2).map fun a =>
    (a.state, (t.line .a).state, t.bufferStateAt 0)) = some (.ended .lineDisabled, .disabled, .free) := by decide +kernel

theorem test_fault_flag_clear : (after (exec (.faultFlagClear 0x2) { base with
    flags := ⟨true, true, true⟩ })).map (fun t => t.readReg .faultFlags) = some 0x5 := by decide +kernel

theorem test_tally_clear : (after (exec (.tallyClear .a 7) (base.setLine .a { activeLine with
    tallies := ⟨1, 2, 3, 4, 5⟩ }))).map (fun t => (t.line .a).tallies) = some ⟨0, 0, 0, 0, 0⟩ := by decide +kernel

theorem test_interval_too_large : (after (exec (.tickIntervalWrite 4096) base)).map (·.timebase) =
    some { interval := 100, phase := 0, taken := none } := by decide +kernel

/-- R159, R185: while the interval is 0 the holdoff timer does not expire. -/
theorem test_no_expiry_without_ticks : (after (exec .holdoffExpiry { base with
    timebase := { interval := 0, phase := 0, taken := none },
    attention := { base.attention with holdoffTimer := .counting 1 } })).map (fun t => t.attention.indicator) =
    some false := by decide +kernel

theorem test_host_floor : (after (exec (.hostFloorWrite 40) base)).map (fun t => t.readReg .hostFloor) = some 32 := by
  decide +kernel

theorem test_notification_settings : (after (exec (.notificationSettingsWrite 0x00034301) base)).map
    (fun t => t.readReg .notification) = some 0x00030101 := by decide +kernel

theorem test_port_read : (after (exec (.attentionPortRead 0b1111) ((holding (record .opened)).raiseSlot 2 .drained))).map
    (fun t => (t.dataOut, t.attention.list)) = some (0x00090802, []) := by decide +kernel

theorem test_window_write : (after (exec (.bufferWindowWrite 1 0b0010 0x0000CD00)
    (base.setPool (base.pool.setState 0 .host)))).map (fun t => (t.bufferByte 0 5, t.bufferByte 0 4)) =
    some (0xCD, 0) := by decide +kernel

theorem test_window_read_fault : (after (exec (.bufferWindowRead 0 0b0001) base)).map
    (fun t => (t.dataOut, t.flags.windowFault)) = some (0, true) := by decide +kernel

theorem test_register_write_latches : (after (exec (.registerWrite 8 0b1111 0x52) base)).map
    (fun t => t.readReg .mailboxStatus) = some 0x0000FF01 := by decide +kernel

/-! ### Witnesses: step, queue, reset -/

theorem witness_StepTakesTheFrontCommand : ({ base with pending := [.tick none, .start] } : State).pending = [.tick none, .start] := rfl

/-- The state with a phase. -/
def atPhase (n : Nat) : State := { base with timebase := { interval := 100, phase := n, taken := none } }

/-- The state in which line A's grace timer alone has taken a tick. -/
def midTick : State := { base with timebase := { interval := 100, phase := 0, taken := some [.grace .a] } }

/-- The state without ticks. -/
def still : State := { base with timebase := { interval := 0, phase := 0, taken := none } }

theorem witness_EmptyQueueStepIsOneUnit :
    (base.pending = [] ∧ ({ base with resetAsserted := true } : State).resetAsserted = true) ∧
    still.timebase.interval = 0 ∧
    ((atPhase 98).pending = [] ∧ (atPhase 98).resetAsserted = false ∧ (atPhase 98).timebase.taken = none ∧
      (atPhase 98).timebase.phase + 1 < (atPhase 98).timebase.interval) ∧
    ((atPhase 99).pending = [] ∧ (atPhase 99).resetAsserted = false ∧ (atPhase 99).timebase.interval ≠ 0 ∧
      (atPhase 99).timebase.interval ≤ (atPhase 99).timebase.phase + 1) ∧
    (midTick.pending = [] ∧ midTick.resetAsserted = false ∧ midTick.timebase.taken ≠ none ∧
      midTick.timebase.interval ≠ 0) := by decide +kernel

theorem witness_CommandsLeaveTheQueue : ∃ t, exec .start base = .next t := ⟨_, rfl⟩

theorem witness_DeviceResetGivesTheResetValues : base.resetAsserted = false ∧ (∀ e : ResetEdge, e = .release →
    ({ base with resetAsserted := true } : State).resetAsserted = true) := ⟨rfl, fun _ _ => rfl⟩

theorem witness_ResetAndInactiveLinesTakeNothing : ({ base with resetAsserted := true } : State).resetAsserted = true ∧
    (State.reset.line .a).state ≠ .active := by decide +kernel

/-! ### Witnesses: the laws -/

/-- The association of `whole`: a message to send, credit 2, a notice waiting. -/
def wholeAssoc : Assoc := { loaded .opened with grant := 2, reasons := ⟨false, false, true, false, false⟩ }

/-- A state with a buffer in a send queue, credit granted and a notice waiting, and a command to take. -/
def whole : State :=
  { (holding wholeAssoc).setPool { base.pool with
      bufferState := base.pool.bufferState.set 0 .outbound, freeList := allBuffers.tail, reserved := 2 } with
    attention := { base.attention with list := [.slot 2], indicator := true }, pending := [.start] }

theorem whole_only {j : Slot} {b : Assoc} (h : whole.assocAt j = some b) : j = 2 ∧ b = wholeAssoc := holding_only h

theorem whole_slot : whole.assocAt 2 = some wholeAssoc := assocAt_setSlotRec_self base 2 _

theorem whole_steps : ∃ t, step whole = .next t := ⟨_, rfl⟩

theorem witness_CreditStaysBacked : whole.CreditBacked ∧ ∃ t, step whole = .next t :=
  ⟨⟨by decide +kernel, by decide +kernel, fun i a h hd => by
    obtain ⟨-, rfl⟩ := whole_only h
    exact absurd hd (by decide)⟩, whole_steps⟩

theorem witness_NoticesStayListed : whole.NoticesListed ∧ ∃ t, step whole = .next t := by
  refine ⟨⟨by decide +kernel, fun src => ?_, fun h => absurd h (by decide +kernel)⟩, whole_steps⟩
  cases src with
  | slot i => revert i; decide +kernel
  | line l => cases l <;> decide +kernel

theorem witness_KeysStayMapped : whole.KeysMapped ∧ ∃ t, step whole = .next t := by
  refine ⟨⟨fun k i => ⟨fun h => ?_, ?_⟩, by decide +kernel⟩, whole_steps⟩
  · have h1 : ({ key := k, slot := i } : MapEntry) = { key := key, slot := 2 } := List.mem_singleton.1 h
    cases h1
    exact ⟨_, whole_slot, by decide, rfl⟩
  · rintro ⟨a, h, -, rfl⟩
    obtain ⟨rfl, rfl⟩ := whole_only h
    exact List.mem_singleton.2 rfl

theorem witness_AdmittedCountsStayExact : whole.AdmittedCounted ∧ ∃ t, step whole = .next t :=
  ⟨by unfold State.AdmittedCounted; decide +kernel, whole_steps⟩

theorem witness_LinesStayConsistent : whole.LinesConsistent ∧ ∃ t, step whole = .next t := by
  refine ⟨⟨fun l => ?_, fun i a h _ => ?_, fun h => absurd h (by decide +kernel)⟩, whole_steps⟩
  · cases l <;> exact ⟨by decide +kernel, by decide +kernel, by decide +kernel, by decide +kernel, by decide +kernel⟩
  · obtain ⟨-, rfl⟩ := whole_only h
    decide +kernel

theorem witness_BuffersStayHeldOnce : whole.BuffersHeld ∧ ∃ t, step whole = .next t := by
  refine ⟨⟨by decide +kernel, by decide +kernel, by decide +kernel, by decide +kernel, by decide +kernel,
    by decide +kernel, fun l b h => ?_, fun l b h => ?_, fun i a h hd => ?_⟩, whole_steps⟩
  · revert h; revert b; cases l <;> decide +kernel
  · revert h; cases l <;> exact fun h => by cases h
  · obtain ⟨-, rfl⟩ := whole_only h
    exact absurd hd (by decide)

theorem whole_params : whole.ParamsInRange :=
  ⟨fun i a h => by obtain ⟨-, rfl⟩ := whole_only h; decide, by decide +kernel⟩

theorem witness_RecordsStayOrdered : whole.RecordsOrdered ∧ ∃ t, step whole = .next t := by
  refine ⟨⟨whole_params, fun i a h _ => ?_, fun i a h hd => ?_⟩, whole_steps⟩
  · obtain ⟨-, rfl⟩ := whole_only h
    exact ⟨⟨by decide, by decide, by decide, by decide, by decide, by decide, by decide, by decide, by decide, by decide⟩,
      by decide, by decide⟩
  · obtain ⟨-, rfl⟩ := whole_only h
    exact absurd hd (by decide)

theorem witness_BufferBytesStayCanonical : whole.BytesCanonical ∧ ∃ t, step whole = .next t :=
  ⟨⟨whole_params, rfl⟩, whole_steps⟩

theorem witness_BackedStatesNeverStop : whole.CreditBacked := witness_CreditStaysBacked.1

theorem witness_FewCommandsWriteBuffers : writesBuffers .cmdAllocate = false ∧
    ∃ t, exec .cmdAllocate (latching base 0x40 (words 0)) = .next t := ⟨rfl, _, rfl⟩

/-! ### Witnesses: framer and frame format -/

/-- Line A inside a frame of which nothing has come. -/
def framing : State := base.setLine .a { activeLine with rx := .collecting [] 0xFFFF 0 false 0 0 }

theorem framing_ready : framing.resetAsserted = false ∧ (framing.line .a).state = .active ∧
    (framing.line .a).rx = .collecting [] 0xFFFF 0 false 0 0 := by decide +kernel

/-- A good frame of 7 bytes, and frames of 6 and 7 bytes that are not delivered. -/
theorem witness_FrameArrivalDeliversOrCounts :
    (crcBytes 0xFFFF ([0, 17, 0x22, 3, 8] ++ checkBytes [0, 17, 0x22, 3, 8]) = 0 ∧
      ([0, 17, 0x22, 3, 8] ++ checkBytes [0, 17, 0x22, 3, 8]).length = 7) ∧
    (crcBytes 0xFFFF ([0, 17, 0x22, 3] ++ checkBytes [0, 17, 0x22, 3]) = 0 ∧
      ([0, 17, 0x22, 3] ++ checkBytes [0, 17, 0x22, 3]).length = 6) ∧
    crcBytes 0xFFFF [0, 17, 0x22, 3, 8, 0, 0] ≠ 0 := by decide +kernel

theorem witness_SentFrameIsReceivedIntact : base.resetAsserted = false ∧ (base.line .a).state = .active ∧
    (base.line .a).rx = .hunting 0 ∧ 5 ≤ ([0, 17, 0x22, 3, 8] : List Byte).length ∧
    (List.replicate 246 (0 : Byte)).length ≤ 246 := by decide +kernel

theorem witness_AbortedFrameIsCounted : violates 0x00 = true ∧ violates 0xFF = true ∧
    (List.replicate 248 (0 : Byte)).length < 249 ∧ (List.replicate 249 (0 : Byte)).length = 249 := by decide +kernel

theorem witness_FrameFieldsSurviveTheWire :
    (frame 7 (.openRequest 16 15)).inRange ∧ (frame 255 (.data 255 [0])).inRange ∧
    ({ station := 62, an := 15, epoch := 1, body := .openAccept 240 0 } : Frame).inRange ∧
    parseFrame [0, 62, 0x3F, 15, 1] = some { station := 62, an := 15, epoch := 1, body := .disown } :=
  ⟨⟨by decide, by decide, by decide, Nat.le_refl 16, Nat.le_of_ble_eq_true rfl, Nat.le_refl 15⟩,
   ⟨by decide, by decide, by decide, Nat.le_refl 1⟩,
   ⟨by decide, by decide, by decide, Nat.le_of_ble_eq_true rfl, Nat.le_refl 240, Nat.zero_le 15⟩, by decide⟩

/-! ### Witnesses: receive dispatch -/

theorem witness_UndispatchedFramesAreCounted :
    (base.line .a).arrived = [] ∧
    (((hearing base [1]).setLine .a { (hearing base [1]).lineA with state := .suspended }).line .a).state ≠ .active ∧
    ((hearing { base with controller := .stopping } [0]).line .a).state = .active ∧
    (hearing { base with controller := .stopping } [0]).controller ≠ .running ∧
    ((hearing base [63, 1, 0x22, 0, 1]).line .a).arrived = [{ bytes := [63, 1, 0x22, 0, 1] }] ∧
    ([63, 1, 0x22, 0, 1] : List Byte).head? ≠ some 0 ∧
    (([0, 63, 0x22, 0, 1] : List Byte).head? = some 0 ∧ parseFrame [0, 63, 0x22, 0, 1] = none) := by decide +kernel

/-- A frame that station 5 sends to the association of `holding`, ready to be dispatched. -/
theorem ready_of {a : Assoc} {bytes : List Byte} {f : Frame} (h0 : bytes.head? = some 0) (hp : parseFrame bytes = some f) :
    (hearing (holding a) bytes).frameReady .a f :=
  ⟨_, _, rfl, rfl, rfl, h0, hp⟩

/-- The association of `holding` has the frame's key. -/
theorem lookup_holding {a : Assoc} (h : a.key = key) (bytes : List Byte) :
    (hearing (holding a) bytes).lookup { line := .a, station := 5, an := 3 } = some 2 := by
  have : (hearing (holding a) bytes).addressMap = [{ key := a.key, slot := 2 }] := rfl
  unfold State.lookup
  rw [this, h]
  rfl

theorem slot_hearing (a : Assoc) (bytes : List Byte) : (hearing (holding a) bytes).assocAt 2 = some a :=
  assocAt_setSlotRec_self base 2 _

/-- A frame of the association's own epoch (R39). -/
theorem own_of {a : Assoc} {bytes : List Byte} {body : FrameBody} (hk : a.key = key) (he : a.epoch = 7)
    (hl : a.state.isLive = true) (h0 : bytes.head? = some 0) (hp : parseFrame bytes = some (frame 7 body)) :
    (hearing (holding a) bytes).frameFor .a (frame 7 body) 2 a :=
  ⟨ready_of h0 hp, lookup_holding hk bytes, slot_hearing a bytes, he, hl⟩

theorem witness_UnownedFramesAreAnswered :
    ((hearing base [0, 5, 0x31, 3, 7, 0]).frameReady .a (frame 7 (.close 0)) ∧
      (hearing base [0, 5, 0x31, 3, 7, 0]).lookup { line := .a, station := 5, an := 3 } = none) ∧
    ((hearing (holding (record .opened)) [0, 5, 0x22, 3, 8]).frameReady .a (frame 8 .probe) ∧
      (hearing (holding (record .opened)) [0, 5, 0x22, 3, 8]).lookup { line := .a, station := 5, an := 3 } = some 2 ∧
      (hearing (holding (record .opened)) [0, 5, 0x22, 3, 8]).assocAt 2 = some (record .opened) ∧
      (record .opened).epoch ≠ (frame 8 .probe).epoch) ∧
    ((hearing (holding (record .opened)) [0, 5, 0x3F, 3, 8]).frameReady .a (frame 8 .disown)) ∧
    ((hearing (holding (record .opening)) [0, 5, 0x11, 3, 8, 16, 0]).frameReady .a (frame 8 (.openRequest 16 0)) ∧
      (hearing (holding (record .opening)) [0, 5, 0x11, 3, 8, 16, 0]).lookup { line := .a, station := 5, an := 3 } = some 2 ∧
      (hearing (holding (record .opening)) [0, 5, 0x11, 3, 8, 16, 0]).assocAt 2 = some (record .opening)) :=
  ⟨⟨⟨_, _, rfl, rfl, rfl, rfl, by decide⟩, rfl⟩,
   ⟨ready_of rfl (by decide), lookup_holding rfl _, slot_hearing _ _, by decide⟩, ready_of rfl (by decide),
   ready_of rfl (by decide), lookup_holding rfl _, slot_hearing _ _⟩

/-- Reply number `n`. -/
def reply (n : Nat) : Reply := { kind := .disown, station := 12, an := 0, epoch := BitVec.ofNat 8 n }

/-- Line A with the replies of the numbers in a list. -/
def replying (ns : List Nat) : State := base.setLine .a { activeLine with replies := ns.map reply }

theorem witness_ReplyQueueTakesReplies :
    (reply 8 ∈ ((replying [1, 2, 3, 4, 5, 6, 7, 8]).line .a).replies) ∧
    (reply 9 ∉ ((replying [1, 2, 3, 4, 5, 6, 7, 8]).line .a).replies ∧
      8 ≤ ((replying [1, 2, 3, 4, 5, 6, 7, 8]).line .a).replies.length) ∧
    (reply 9 ∉ ((replying [1, 2, 3, 4, 5, 6, 7]).line .a).replies ∧
      ((replying [1, 2, 3, 4, 5, 6, 7]).line .a).replies.length < 8) := by decide +kernel

/-- A listen entry that takes every station and AN of line A. -/
def openEntry (mode : ListenMode) (limit admitted : Nat) : ListenEntry :=
  { ListenEntry.reset with enabled := true, mode := mode, stationMask := 63, anMask := 15, admissionLimit := limit,
                           admitted := admitted }

/-- The state with listen entry 4, with the others disabled, and an OPEN-REQUEST of station 5 waiting. -/
def asking (e : ListenEntry) : State := hearing (base.setListen 4 e) [0, 5, 0x11, 3, 7, 100, 3]

/-- That request. -/
def request : Frame := frame 7 (.openRequest 100 3)

theorem asking_ready (e : ListenEntry) : (asking e).frameReady .a request ∧ request.body.kind = .openRequest ∧
    (asking e).lookup { line := .a, station := request.station, an := request.an } = none :=
  ⟨⟨_, _, rfl, rfl, rfl, rfl, by decide⟩, rfl, rfl⟩

/-- The state in which every slot is occupied and the entry has room. -/
def crowded : State := { asking (openEntry .auto 1 0) with
  table := Vector.replicate 64 { generation := 1, assoc := some (record (.ended .disowned)) } }

theorem witness_ListenAdmissionRefuses :
    (∀ n, ((asking ListenEntry.reset).listenAt n).matchesRequest .a request = false) ∧
    (((asking (openEntry .auto 1 1)).listenAt 4).matchesRequest .a request = true ∧
      (∀ m, m < (4 : ListenNo) → ((asking (openEntry .auto 1 1)).listenAt m).matchesRequest .a request = false) ∧
      ((asking (openEntry .auto 1 1)).listenAt 4).admissionLimit ≤ ((asking (openEntry .auto 1 1)).listenAt 4).admitted) ∧
    ((crowded.frameReady .a request ∧ crowded.lookup { line := .a, station := 5, an := 3 } = none) ∧
      (crowded.listenAt 4).matchesRequest .a request = true ∧
      (∀ m, m < (4 : ListenNo) → (crowded.listenAt m).matchesRequest .a request = false) ∧
      (crowded.listenAt 4).admitted < (crowded.listenAt 4).admissionLimit ∧ ∀ i, crowded.assocAt i ≠ none) :=
  ⟨by decide +kernel, ⟨by decide +kernel, by decide +kernel, by decide +kernel⟩,
   ⟨⟨_, _, rfl, rfl, rfl, rfl, by decide⟩, rfl⟩, by decide +kernel, by decide +kernel, by decide +kernel, by decide +kernel⟩

theorem witness_AdmissionCreatesAnAssociation : ∀ mode,
    (asking (openEntry mode 1 0)).frameReady .a request ∧ request.body = .openRequest 100 3 ∧
    (asking (openEntry mode 1 0)).lookup { line := .a, station := request.station, an := request.an } = none ∧
    ((asking (openEntry mode 1 0)).listenAt 4).matchesRequest .a request = true ∧
    (∀ m, m < (4 : ListenNo) → ((asking (openEntry mode 1 0)).listenAt m).matchesRequest .a request = false) ∧
    ((asking (openEntry mode 1 0)).listenAt 4).admitted < ((asking (openEntry mode 1 0)).listenAt 4).admissionLimit ∧
    ((asking (openEntry mode 1 0)).listenAt 4).params.inRange = true ∧
    (asking (openEntry mode 1 0)).lowestFree 0 ∧ ((asking (openEntry mode 1 0)).listenAt 4).mode = mode := by
  intro mode
  refine ⟨(asking_ready _).1, rfl, (asking_ready _).2.2, ?_, ?_, ?_, ?_, ⟨?_, ?_⟩, ?_⟩ <;> cases mode <;> decide +kernel

/-- The state of `holding` with listen entry 4, the others disabled, and an OPEN-REQUEST of epoch 8 for the association's key. -/
def restarting (a : Assoc) (e : ListenEntry) : State :=
  hearing ((holding a).setListen 4 e) [0, 5, 0x11, 3, 8, 16, 0]

/-- That request. -/
def restart : Frame := frame 8 (.openRequest 16 0)

theorem restarting_slot (a : Assoc) (e : ListenEntry) : (restarting a e).assocAt 2 = some a := assocAt_setSlotRec_self base 2 _

theorem restarting_only {a : Assoc} {e : ListenEntry} {j : Slot} {b : Assoc} (h : (restarting a e).assocAt j = some b) :
    j = 2 ∧ b = a := holding_only h

theorem restarting_ready (a : Assoc) (e : ListenEntry) (hk : a.key = key) : (restarting a e).frameReady .a restart ∧
    (restarting a e).lookup { line := .a, station := restart.station, an := restart.an } = some 2 := by
  refine ⟨⟨_, _, rfl, rfl, rfl, rfl, by decide⟩, ?_⟩
  have : (restarting a e).addressMap = [{ key := a.key, slot := 2 }] := rfl
  unfold State.lookup
  rw [this, hk]
  rfl

/-- An association that came through listen entry 4. -/
def listened : Assoc := { record .opened with origin := .listen 4 }

/-- The state of `restarting` with every other slot occupied. -/
def packed (e : ListenEntry) : State := { restarting (record .offered) e with
  table := (Vector.replicate 64 { generation := 1, assoc := some (record (.ended .disowned)) }).set 2
    { generation := 9, assoc := some (record .offered) } }

theorem witness_RestartEndsTheOldAssociation :
    (((restarting (record .offered) ListenEntry.reset).frameReady .a restart ∧
        (restarting (record .offered) ListenEntry.reset).lookup
          { line := .a, station := restart.station, an := restart.an } = some 2) ∧
      (restarting (record .offered) ListenEntry.reset).assocAt 2 = some (record .offered) ∧
      (record .offered).epoch ≠ restart.epoch ∧ (record .offered).state.isLive = true ∧
      (record .offered).state ≠ .opening ∧ restart.body.kind = .openRequest ∧
      ∀ n, ((restarting (record .offered) ListenEntry.reset).listenAt n).matchesRequest .a restart = false) ∧
    (∀ e ∈ [openEntry .auto 1 1, openEntry .ask 1 0, openEntry .auto 1 0],
      ((restarting (record .offered) e).listenAt 4).matchesRequest .a restart = true ∧
      ∀ m, m < (4 : ListenNo) → ((restarting (record .offered) e).listenAt m).matchesRequest .a restart = false) ∧
    ((restarting (record .offered) (openEntry .auto 1 1)).listenAt 4).admissionLimit ≤
      ((restarting (record .offered) (openEntry .auto 1 1)).listenAt 4).admitted ∧
    ((packed (openEntry .auto 1 0)).frameReady .a restart ∧
      (packed (openEntry .auto 1 0)).lookup { line := .a, station := 5, an := 3 } = some 2 ∧
      (packed (openEntry .auto 1 0)).assocAt 2 = some (record .offered) ∧
      ((packed (openEntry .auto 1 0)).listenAt 4).matchesRequest .a restart = true ∧
      ∀ j, (packed (openEntry .auto 1 0)).assocAt j ≠ none) ∧
    (∀ mode, ((restarting listened (openEntry mode 1 1)).frameReady .a restart ∧
        (restarting listened (openEntry mode 1 1)).lookup
          { line := .a, station := restart.station, an := restart.an } = some 2) ∧
      (restarting listened (openEntry mode 1 1)).assocAt 2 = some listened ∧ listened.origin = .listen 4 ∧
      ((restarting listened (openEntry mode 1 1)).listenAt 4).matchesRequest .a restart = true ∧
      (∀ m, m < (4 : ListenNo) → ((restarting listened (openEntry mode 1 1)).listenAt m).matchesRequest .a restart = false) ∧
      ((restarting listened (openEntry mode 1 1)).listenAt 4).admitted - 1 <
        ((restarting listened (openEntry mode 1 1)).listenAt 4).admissionLimit ∧
      (restarting listened (openEntry mode 1 1)).lowestFree 0 ∧
      ((restarting listened (openEntry mode 1 1)).listenAt 4).params.inRange = true ∧
      ((restarting listened (openEntry mode 1 1)).listenAt 4).mode = mode) := by
  refine ⟨⟨restarting_ready _ _ rfl, restarting_slot _ _, by decide, by decide, by decide, rfl, by decide +kernel⟩,
    by decide +kernel, by decide +kernel, ⟨⟨_, _, rfl, rfl, rfl, rfl, by decide⟩, rfl, by decide +kernel, by decide +kernel,
      by decide +kernel⟩, fun mode => ⟨restarting_ready _ _ rfl, restarting_slot _ _, rfl, ?_, ?_, ?_, ⟨?_, ?_⟩, ?_, ?_⟩⟩
  · cases mode <;> decide +kernel
  · cases mode <;> decide +kernel
  · cases mode <;> decide +kernel
  · cases h : (restarting listened (openEntry mode 1 1)).assocAt 0 with
    | none => rfl
    | some b => exact absurd (restarting_only h).1 (by decide)
  · exact fun _ h => absurd h (Fin.not_lt_zero _)
  · cases mode <;> decide +kernel
  · cases mode <;> rfl

theorem witness_StationAnswersOpenOrRefuse :
    (hearing (holding (record .opening)) [0, 5, 0x12, 3, 7, 240, 15]).frameFor .a (frame 7 (.openAccept 240 15)) 2
      (record .opening) ∧
    (hearing (holding (record .opening)) [0, 5, 0x13, 3, 7, 6]).frameFor .a (frame 7 (.openRefuse .offerExpired)) 2
      (record .opening) ∧ (record .opening).state = .opening :=
  ⟨own_of rfl rfl rfl rfl (by decide), own_of rfl rfl rfl rfl (by decide), rfl⟩

theorem witness_EntryToEndedEffects :
    ((Claim.begin sendingData).st.assocAt 2 = some { loaded .opened with nextToSend := 1, sentMark := 1 } ∧
      ({ loaded .opened with nextToSend := 1, sentMark := 1 } : Assoc).state.isLive = true) ∧
    ((Claim.begin (holding (record (.ended .disowned)))).st.assocAt 2 = some (record (.ended .disowned)) ∧
      (record (.ended .disowned)).state.isLive = false) :=
  ⟨⟨assocAt_setSlotRec_self base 2 _, rfl⟩, assocAt_setSlotRec_self base 2 _, rfl⟩

/-- The record with a grant. -/
def granted (st : AssocState) (g : Nat) : Assoc := { record st with grant := g }

theorem witness_ExpectedDataIsAccepted :
    (hearing (holding (granted .closing 1)) [0, 5, 0x20, 3, 7, 0, 9]).frameFor .a (frame 7 (.data 0 [9])) 2
      (granted .closing 1) ∧
    (frame 7 (.data 0 [9])).body = .data (granted .closing 1).expected [9] ∧ (granted .closing 1).state.receives = true ∧
    0 < (granted .closing 1).grant ∧ ([9] : List Byte).length ≤ (granted .closing 1).params.inboundLimit ∧
    ([9] : List Byte).length ≤ 240 ∧
    (hearing (holding (granted .closing 1)) [0, 5, 0x20, 3, 7, 0, 9]).pool.freeList = 0 :: allBuffers.tail ∧
    Memory.wf (hearing (holding (granted .closing 1)) [0, 5, 0x20, 3, 7, 0, 9]).pool.memory = true :=
  ⟨own_of rfl rfl rfl rfl (by decide), rfl, rfl, by decide, by decide, by decide, by decide +kernel, rfl⟩

/-- The bytes of a DATA frame with a tag and a payload of `n` zeros. -/
def dataBytes (tag : Byte) (n : Nat) : List Byte := [0, 5, 0x20, 3, 7, tag] ++ List.replicate n 0

theorem witness_OtherDataOwesReceiptOrEnds :
    ((hearing (holding (granted .opened 2)) (dataBytes 0 129)).frameFor .a (frame 7 (.data 0 (List.replicate 129 0))) 2
        (granted .opened 2) ∧ (granted .opened 2).params.inboundLimit < (List.replicate 129 (0 : Byte)).length) ∧
    ((hearing (holding (granted .opened 2)) (dataBytes 1 128)).frameFor .a (frame 7 (.data 1 (List.replicate 128 0))) 2
        (granted .opened 2) ∧ (List.replicate 128 (0 : Byte)).length ≤ (granted .opened 2).params.inboundLimit ∧
      1 ≤ ((1 : Tag) - (granted .opened 2).expected).toNat ∧
      ((1 : Tag) - (granted .opened 2).expected).toNat < (granted .opened 2).grant) ∧
    ((hearing (holding (granted .opened 2)) (dataBytes 224 1)).frameFor .a (frame 7 (.data 224 [0])) 2
        (granted .opened 2) ∧ 224 ≤ ((224 : Tag) - (granted .opened 2).expected).toNat) ∧
    ((hearing (holding (granted .draining 0)) (dataBytes 0 1)).frameFor .a (frame 7 (.data 0 [0])) 2
        (granted .draining 0) ∧ ((0 : Tag) - (granted .draining 0).expected).toNat = 0 ∧ (granted .draining 0).grant = 0) ∧
    ((hearing (holding (granted .closing 2)) (dataBytes 2 1)).frameFor .a (frame 7 (.data 2 [0])) 2
        (granted .closing 2) ∧ 1 ≤ ((2 : Tag) - (granted .closing 2).expected).toNat ∧
      (granted .closing 2).grant ≤ ((2 : Tag) - (granted .closing 2).expected).toNat) ∧
    ((hearing (holding (granted .opened 2)) (dataBytes 223 1)).frameFor .a (frame 7 (.data 223 [0])) 2
        (granted .opened 2) ∧ ((223 : Tag) - (granted .opened 2).expected).toNat ≤ 223) :=
  ⟨⟨own_of rfl rfl rfl rfl (by decide +kernel), by decide +kernel⟩,
   ⟨own_of rfl rfl rfl rfl (by decide +kernel), by decide +kernel, by decide, by decide⟩,
   ⟨own_of rfl rfl rfl rfl (by decide), by decide⟩, ⟨own_of rfl rfl rfl rfl (by decide), by decide, rfl⟩,
   ⟨own_of rfl rfl rfl rfl (by decide), by decide, by decide⟩, own_of rfl rfl rfl rfl (by decide), by decide⟩

/-- The bytes of a RECEIPT. -/
def receiptBytes (next credit : Byte) : List Byte := [0, 5, 0x21, 3, 7, next, credit]

/-- The loaded record with its entry sent. -/
def sent (st : AssocState) : Assoc := { loaded st with nextToSend := 1, sentMark := 1 }

theorem witness_ReceiptMovesThePositions :
    ((hearing (holding (sent .draining)) (receiptBytes 1 15)).frameFor .a (frame 7 (.receipt 1 15)) 2 (sent .draining) ∧
      tagDistance (sent .draining).sendBase 1 ≤ tagDistance (sent .draining).sendBase (sent .draining).sentMark) ∧
    ((hearing (holding (sent .opened)) (receiptBytes 0 0)).frameFor .a (frame 7 (.receipt 0 0)) 2 (sent .opened) ∧
      tagDistance (sent .opened).sendBase 0 ≤ tagDistance (sent .opened).sendBase (sent .opened).sentMark) ∧
    (¬ ∀ x ∈ [(0 : BufferNo)], (hearing (holding (sent .draining)) (receiptBytes 1 15)).inFlight .a = some x) ∧
    ∀ x ∈ ([] : List BufferNo), (hearing (holding (sent .opened)) (receiptBytes 0 0)).inFlight .a = some x :=
  ⟨⟨own_of rfl rfl rfl rfl (by decide), by decide⟩, ⟨own_of rfl rfl rfl rfl (by decide), by decide⟩, by decide +kernel,
   fun _ h => absurd h List.not_mem_nil⟩

theorem witness_OtherReceiptsEndOrAreIgnored :
    ((hearing (holding (sent .opened)) (receiptBytes 2 0)).frameFor .a (frame 7 (.receipt 2 0)) 2 (sent .opened) ∧
      tagDistance (sent .opened).sendBase (sent .opened).sentMark < tagDistance (sent .opened).sendBase 2 ∧
      tagDistance (sent .opened).sendBase 127 ≤ 127) ∧
    ((hearing (holding (sent .draining)) (receiptBytes 128 0)).frameFor .a (frame 7 (.receipt 128 0)) 2 (sent .draining) ∧
      tagDistance (sent .draining).sendBase (sent .draining).sentMark < tagDistance (sent .draining).sendBase 128 ∧
      128 ≤ tagDistance (sent .draining).sendBase 128) ∧
    ((hearing (holding (record .closing)) (receiptBytes 0 0)).frameFor .a (frame 7 (.receipt 0 0)) 2 (record .closing) ∧
      (0 : Tag) = (record .closing).sendBase) ∧
    ((hearing (holding (record .closing)) (receiptBytes 1 0)).frameFor .a (frame 7 (.receipt 1 0)) 2 (record .closing) ∧
      1 ≤ tagDistance (record .closing).sendBase 1 ∧ tagDistance (record .closing).sendBase 127 ≤ 127) ∧
    ((hearing (holding (record .closing)) (receiptBytes 255 0)).frameFor .a (frame 7 (.receipt 255 0)) 2 (record .closing) ∧
      128 ≤ tagDistance (record .closing).sendBase 255) :=
  ⟨⟨own_of rfl rfl rfl rfl (by decide), by decide, by decide⟩, ⟨own_of rfl rfl rfl rfl (by decide), by decide, by decide⟩,
   ⟨own_of rfl rfl rfl rfl (by decide), rfl⟩, ⟨own_of rfl rfl rfl rfl (by decide), by decide, by decide⟩,
   own_of rfl rfl rfl rfl (by decide), by decide⟩

theorem witness_OtherFramesEndOweOrDoNothing :
    ((hearing (holding (record .closing)) [0, 5, 0x31, 3, 7, 0]).frameFor .a (frame 7 (.close 0)) 2 (record .closing) ∧
      (record .closing).state.receives = true ∧ (0 : Tag) = (record .closing).expected ∧ (1 : Tag) ≠ (record .closing).expected) ∧
    (hearing (holding (record .closing)) [0, 5, 0x32, 3, 7]).frameFor .a (frame 7 .closeConfirm) 2 (record .closing) ∧
    (hearing (holding (record .offered)) [0, 5, 0x3F, 3, 7]).frameFor .a (frame 7 .disown) 2 (record .offered) ∧
    (hearing (holding (record .opened)) [0, 5, 0x22, 3, 7]).frameFor .a (frame 7 .probe) 2 (record .opened) ∧
    (hearing (holding (record .draining)) [0, 5, 0x11, 3, 7, 16, 0]).frameFor .a (frame 7 (.openRequest 16 0)) 2
      (record .draining) ∧
    (hearing (holding (record .opening)) [0, 5, 0x22, 3, 7]).frameFor .a (frame 7 .probe) 2 (record .opening) ∧
    (hearing (holding (record .offered)) [0, 5, 0x22, 3, 7]).frameFor .a (frame 7 .probe) 2 (record .offered) ∧
    (hearing (holding (record .opened)) [0, 5, 0x13, 3, 7, 1]).frameFor .a (frame 7 (.openRefuse .noListener)) 2
      (record .opened) ∧
    (hearing (holding (record .draining)) [0, 5, 0x32, 3, 7]).frameFor .a (frame 7 .closeConfirm) 2 (record .draining) :=
  ⟨⟨own_of rfl rfl rfl rfl (by decide), rfl, rfl, by decide⟩, own_of rfl rfl rfl rfl (by decide),
   own_of rfl rfl rfl rfl (by decide), own_of rfl rfl rfl rfl (by decide), own_of rfl rfl rfl rfl (by decide),
   own_of rfl rfl rfl rfl (by decide), own_of rfl rfl rfl rfl (by decide), own_of rfl rfl rfl rfl (by decide),
   own_of rfl rfl rfl rfl (by decide)⟩

/-! ### Witnesses: line transmitters -/

theorem base_free : base.lineFree .a := ⟨by decide +kernel, rfl, rfl⟩

theorem base_owes_nothing (i : Slot) (a : Assoc) : ¬ base.owesControl .a i a ∧ ¬ base.owesData .a i a := by
  refine ⟨fun h => ?_, fun h => ?_⟩
  · have h1 := h.1
    rw [base_empty] at h1
    cases h1
  · have h1 := h.1
    rw [base_empty] at h1
    cases h1

theorem replying_owes_nothing (ns : List Nat) (i : Slot) (a : Assoc) : ¬ (replying ns).owesData .a i a := fun h => by
  have h1 : base.assocAt i = some a := h.1
  rw [base_empty] at h1
  cases h1

theorem witness_ReplyGoesOutInTurn :
    ((replying [1, 2]).lineFree .a ∧ ((replying [1, 2]).line .a).replies = reply 1 :: [reply 2] ∧
      (((replying [1, 2]).line .a).burst ≠ 4 ∨ ∀ i a, ¬ (replying [1, 2]).owesData .a i a)) ∧
    (∀ i a, ¬ (replying [1]).owesData .a i a) ∧
    ¬ ({ base with controller := .stopping } : State).lineFree .a ∧
    ((base.line .a).replies = [] ∧ (∀ i a, ¬ base.owesControl .a i a) ∧ ∀ i a, ¬ base.owesData .a i a) :=
  ⟨⟨⟨by decide +kernel, rfl, rfl⟩, by decide +kernel, Or.inl (by decide +kernel)⟩, replying_owes_nothing _,
   fun h => absurd h.2.1 (by decide), rfl, fun i a => (base_owes_nothing i a).1, fun i a => (base_owes_nothing i a).2⟩

/-- The record in DRAINING with a message to send and every kind of control pending. -/
def owing (c : ControlSet) : Assoc := { loaded .draining with pendingControl := c }

theorem witness_ControlFrameGoesOutInTurn : ∀ k, ∃ c,
    (holding (owing c)).lineFree .a ∧ ((holding (owing c)).line .a).replies = [] ∧ ((holding (owing c)).line .a).burst ≠ 4 ∧
    (holding (owing c)).owesControl .a 2 (owing c) ∧
    (∀ j b, (holding (owing c)).owesControl .a j b →
      turnAfter ((holding (owing c)).line .a).controlPtr 2 ≤ turnAfter ((holding (owing c)).line .a).controlPtr j) ∧
    (owing c).pendingControl.turnOf k := by
  have go : ∀ (c : ControlSet) (k : ControlKind), c ≠ .empty → c.turnOf k →
      (holding (owing c)).lineFree .a ∧ ((holding (owing c)).line .a).replies = [] ∧
      ((holding (owing c)).line .a).burst ≠ 4 ∧ (holding (owing c)).owesControl .a 2 (owing c) ∧
      (∀ j b, (holding (owing c)).owesControl .a j b →
        turnAfter ((holding (owing c)).line .a).controlPtr 2 ≤ turnAfter ((holding (owing c)).line .a).controlPtr j) ∧
      (owing c).pendingControl.turnOf k := fun c k hc hk =>
    ⟨⟨rfl, rfl, rfl⟩, rfl, Nat.noConfusion, ⟨assocAt_setSlotRec_self base 2 _, rfl, hc⟩,
     fun j b h => by rw [(holding_only h.1).1], hk⟩
  intro k
  cases k with
  | openAccept => exact ⟨⟨true, true, true, true, true⟩, go _ _ (by decide) rfl⟩
  | openRequest => exact ⟨⟨false, true, true, true, true⟩, go _ _ (by decide) ⟨rfl, rfl⟩⟩
  | close => exact ⟨⟨false, false, true, true, true⟩, go _ _ (by decide) ⟨rfl, rfl, rfl⟩⟩
  | receipt => exact ⟨⟨false, false, false, true, true⟩, go _ _ (by decide) ⟨rfl, rfl, rfl, rfl⟩⟩
  | probe => exact ⟨⟨false, false, false, false, true⟩, go _ _ (by decide) ⟨rfl, rfl, rfl, rfl, rfl⟩⟩

theorem witness_DataFrameGoesOutInTurn :
    (holding (loaded .opened)).lineFree .a ∧
    (((holding (loaded .opened)).line .a).replies = [] ∧ ∀ j b, ¬ (holding (loaded .opened)).owesControl .a j b) ∧
    (holding (loaded .opened)).owesData .a 2 (loaded .opened) ∧
    (∀ j b, (holding (loaded .opened)).owesData .a j b →
      turnAfter ((holding (loaded .opened)).line .a).dataPtr 2 ≤ turnAfter ((holding (loaded .opened)).line .a).dataPtr j) ∧
    (loaded .opened).sendQueue = [] ++ { tag := 0, buffer := 0, length := 3 } :: [] ∧ (0 : Tag) = (loaded .opened).nextToSend ∧
    (((replying [1]).setLine .a { (replying [1]).lineA with burst := 4 }).line .a).burst = 4 :=
  ⟨⟨rfl, rfl, rfl⟩, ⟨rfl, fun j b h => by
      obtain ⟨-, rfl⟩ := holding_only h.1
      exact h.2.2 rfl⟩,
   ⟨assocAt_setSlotRec_self base 2 _, rfl, Or.inl rfl, by decide, by decide, by decide, rfl, rfl⟩,
   fun j b h => by rw [(holding_only h.1).1], rfl, rfl, rfl⟩

/-- The state in which the frame on line A is of an association that has gone, with a buffer that is RETIRING. -/
def retiring : State := sendingData.setPool (sendingData.pool.setState 0 (.retiring .a))

theorem witness_TransmissionEnds :
    (base.line .a).tx = .idle ∧
    ((sendingData.line .a).tx = .sending { kind := .data, source := .association 2 9, buffer := some 0 } ∧
      sendingData.sentFor { kind := .data, source := .association 2 9, buffer := some 0 } 2 (sent .opened) ∧
      ∀ b m, some (0 : BufferNo) = some b → sendingData.bufferStateAt b ≠ .retiring m) ∧
    ((retiring.line .a).tx = .sending { kind := .data, source := .association 2 9, buffer := some 0 } ∧
      retiring.bufferStateAt 0 = .retiring .a) ∧
    (((base.setLine .b { activeLine with
        tx := .sending { kind := .disown, source := .reply, buffer := none } }).line .b).tx =
        .sending { kind := .disown, source := .reply, buffer := none } ∧
      ∀ i a, ¬ base.sentFor { kind := .disown, source := .reply, buffer := none } i a) := by
  refine ⟨rfl, ⟨rfl, ⟨?_, assocAt_setSlotRec_self base 2 _⟩, fun b m h => ?_⟩, ⟨rfl, ?_⟩, rfl, fun i a h => ?_⟩
  · have : sendingData.generation 2 = 9 := by decide +kernel
    rw [this]
  · cases h
    cases m <;> decide +kernel
  · decide +kernel
  · cases h.1

/-! ### Witnesses: timers -/

/-- Line A in a state, with a grace timer. -/
def lined (st : LineState) (t : Timer) : State := base.setLine .a { activeLine with state := st, graceTimer := t }

theorem open_base (x : TimerName) : base.tickOpen x := ⟨rfl, by decide, fun _ h => by cases h⟩

theorem open_holding (a : Assoc) (x : TimerName) : (holding a).tickOpen x := open_base x

theorem not_open_still (x : TimerName) : ¬ still.tickOpen x := fun h => h.2.1 rfl

theorem not_open_midTick : ¬ midTick.tickOpen (.grace .a) := fun h => h.2.2 _ rfl (List.mem_singleton.2 rfl)

/-- The record with a state timer and a receipt timer. -/
def timed (st : AssocState) (x y : Timer) : Assoc := { record st with stateTimer := x, receiptTimer := y }

/-- The boundaries: a frozen timer at 1, a counting one at 2, a stopped one; nothing expires in `holding` and `base`. -/
theorem witness_TickReachesEveryTimer :
    (still.resetAsserted = false ∧ still.timebase.interval = 0 ∧ ¬ still.tickOpen .holdoff ∧ ¬ midTick.tickOpen (.grace .a)) ∧
    (base.tickOpen (.assocState 5) ∧ base.assocAt 5 = none) ∧
    ((holding (timed .opened (.counting 2) .stopped)).tickOpen (.assocState 2) ∧
      (holding (timed .opened (.counting 2) .stopped)).assocAt 2 = some (timed .opened (.counting 2) .stopped) ∧
      (Timer.counting 2).survives True ∧ Timer.stopped.survives True ∧ (Timer.counting 1).survives False) ∧
    (base.resetAsserted = false ∧ base.timebase.interval ≠ 0 ∧ base.timebase.taken = none ∧
      (∀ i a, base.assocAt i = some a → a.stateTimer.survives (base.TimersCount a.key.line) ∧
        a.receiptTimer.survives (base.TimersCount a.key.line)) ∧
      (∀ l, (base.line l).graceTimer.survives (base.controller = .running)) ∧ base.attention.holdoffTimer.survives True) := by
  refine ⟨⟨rfl, rfl, not_open_still _, not_open_midTick⟩, ⟨open_base _, base_empty 5⟩,
    ⟨open_holding _ _, assocAt_setSlotRec_self base 2 _, ?_, ?_, fun h => h.elim⟩, rfl, by decide, rfl, fun i a h => ?_,
    fun l _ n h => ?_, fun _ n h => ?_⟩
  · intro _ n h
    cases h
    exact Nat.le_refl 2
  · intro _ n h
    cases h
  · rw [base_empty] at h
    cases h
  · cases l <;> cases h
  · cases h

/-- The association whose state timer has one tick left. -/
def lastTick (st : AssocState) (retries : Nat) : Assoc := { record st with stateTimer := .counting 1, retryCount := retries }

/-- A timer with two ticks left, or stopped, survives a tick. -/
theorem survives_two : (Timer.counting 2).survives True ∧ Timer.stopped.survives True :=
  ⟨fun _ _ h => by cases h; exact Nat.le_refl 2, fun _ _ h => by cases h⟩

theorem witness_RetryExpiries : ∀ st, st = .opening ∨ st = .opened ∨ st = .draining ∨ st = .closing →
    ((holding (lastTick st 2)).assocAt 2 = some (lastTick st 2) ∧ (lastTick st 2).state = st ∧
      (holding (lastTick st 2)).tickOpen (.assocState 2) ∧ (lastTick st 2).stateTimer = .counting 1 ∧
      (holding (lastTick st 2)).TimersCount (lastTick st 2).key.line ∧
      (lastTick st 2).retryCount + 1 ≤ (lastTick st 2).params.retryLimit) ∧
    (lastTick st 3).params.retryLimit < (lastTick st 3).retryCount + 1 ∧ (record st).stateTimer.survives True ∧
    ¬ still.tickOpen (.assocState 2) ∧ ¬ (lined .suspended .stopped).TimersCount (record st).key.line :=
  fun _ _ => ⟨⟨assocAt_setSlotRec_self base 2 _, rfl, open_holding _ _, rfl, ⟨rfl, rfl⟩, Nat.le_refl 3⟩, Nat.lt_add_one 3,
    survives_two.2, not_open_still _, fun h => by cases h.2⟩

theorem witness_OtherExpiries :
    ((holding (lastTick .offered 0)).assocAt 2 = some (lastTick .offered 0) ∧
      (holding (lastTick .offered 0)).tickOpen (.assocState 2) ∧ (lastTick .offered 0).stateTimer = .counting 1 ∧
      (lastTick .offered 0).state = .offered ∧ (holding (lastTick .offered 0)).TimersCount (lastTick .offered 0).key.line) ∧
    ((holding (timed .closing .stopped (.counting 1))).assocAt 2 = some (timed .closing .stopped (.counting 1)) ∧
      (holding (timed .closing .stopped (.counting 1))).tickOpen (.receipt 2) ∧
      (timed .closing .stopped (.counting 1)).receiptTimer = .counting 1 ∧ (record .closing).state.receives = true) ∧
    (¬ still.tickOpen .holdoff ∧ (Timer.counting 2).survives True ∧ (record .offered).state.receives = false ∧
      ¬ ({ base with controller := .stopped } : State).TimersCount .a) ∧
    (base.tickOpen .holdoff ∧ ({ base.attention with holdoffTimer := .counting 1 } : Attention).holdoffTimer = .counting 1) :=
  ⟨⟨assocAt_setSlotRec_self base 2 _, open_holding _ _, rfl, rfl, rfl, rfl⟩,
   ⟨assocAt_setSlotRec_self base 2 _, open_holding _ _, rfl, rfl⟩,
   ⟨not_open_still _, survives_two.1, rfl, fun h => by cases h.1⟩, open_base _, rfl⟩

/-! ### Witnesses: lines and controller -/

theorem witness_CarrierAndEnableMoveTheLine : (base.line .a).state = .active ∧
    ((lined .down .stopped).line .a).state ≠ .active ∧ ((lined .suspended (.counting 20)).line .a).state = .suspended ∧
    ((lined .down .stopped).line .a).state = .down ∧ ((lined .disabled .stopped).line .a).state = .disabled ∧
    (lined .disabled .stopped).resetAsserted = false := by decide +kernel

theorem witness_LostLineEndsItsAssociations :
    ((lined .suspended (.counting 1)).tickOpen (.grace .a) ∧ ((lined .suspended (.counting 1)).line .a).state = .suspended ∧
      ((lined .suspended (.counting 1)).line .a).graceTimer = .counting 1 ∧
      (lined .suspended (.counting 1)).controller = .running) ∧
    ((base.line .a).state ≠ .disabled ∧ base.resetAsserted = false) ∧
    (¬ midTick.tickOpen (.grace .a) ∧ ((lined .suspended (.counting 2)).line .a).graceTimer = .counting 2 ∧
      (Timer.counting 2).survives True) ∧
    ({ lined .suspended (.counting 1) with controller := .stopping } : State).controller ≠ .running ∧
    ((lined .disabled .stopped).line .a).state = .disabled :=
  ⟨⟨open_base _, rfl, rfl, rfl⟩, ⟨by decide +kernel, rfl⟩, ⟨not_open_midTick, rfl, survives_two.1⟩, by decide +kernel, rfl⟩

theorem witness_ControllerRequests :
    (base.resetAsserted = false ∧ base.controller = .running ∧ base.lineA.tx = .idle ∧ base.lineB.tx = .idle) ∧
    (sendingData.controller = .running ∧ sendingData.lineA.tx ≠ .idle) ∧ State.reset.controller ≠ .running ∧
    (State.reset.resetAsserted = false ∧ State.reset.controller = .stopped ∧ State.reset.mailbox.latched = none) ∧
    (latching State.reset 0x10 (words 0)).mailbox.latched ≠ none := by decide +kernel

/-! ### Witnesses: mailbox commands -/

theorem latches_of (s : State) (code : Byte) (p : Vector Word 6) : (latching s code p).latches code p := rfl

/-- The handle of `holding` names its association. -/
theorem names_of (a : Assoc) (code : Byte) (p : Vector Word 6) : (latching (holding a) code p).names handle 2 a :=
  ⟨by decide, by
    have : (latching (holding a) code p).generation 2 = 9 := generation_setSlotRec_self base 2 _
    rw [this]; decide, assocAt_setSlotRec_self base 2 _⟩

theorem witness_MailboxCommandsComplete :
    (mailboxCode .cmdRelease = some 0x33 ∧ (latching base 0x33 (words 0)).latches 0x33 (words 0)) ∧
    (∀ p, ¬ base.latches 0x33 p) ∧
    ((latching base 0x99 (words 0)).mailbox.latched = some { code := 0x99, params := words 0 } ∧
      (0x99 : Byte) ∉ commandCodes ∧ (0x52 : Byte) ∈ commandCodes) :=
  ⟨⟨rfl, rfl⟩, (fun _ h => by cases h), rfl, by decide, by decide⟩

theorem witness_HandleIsTestedBeforeState : ∀ c, c ∈ handleCommands → ∃ code st,
    mailboxCode c = some code ∧ refusedIn c st = true ∧
    (latching (holding (record st)) code (words handle)).latches code (words handle) ∧
    (latching (holding (record st)) code (words handle)).names (words handle)[0] 2 (record st) ∧
    fieldNat (words handle)[1] 0 8 < 128 ∧ (latching base code (words handle)).stale (words handle)[0] := by
  have go : ∀ (c : Instr) (code : Byte) (st : AssocState), mailboxCode c = some code → refusedIn c st = true →
      ∃ code st, mailboxCode c = some code ∧ refusedIn c st = true ∧
      (latching (holding (record st)) code (words handle)).latches code (words handle) ∧
      (latching (holding (record st)) code (words handle)).names (words handle)[0] 2 (record st) ∧
      fieldNat (words handle)[1] 0 8 < 128 ∧ (latching base code (words handle)).stale (words handle)[0] :=
    fun c code st h1 h2 => ⟨code, st, h1, h2, rfl, names_of _ _ _, by decide, fun i a h => by
      have : (latching base code (words handle)).assocAt i = none := base_empty i
      have h3 := h.2.2
      rw [this] at h3
      cases h3⟩
  intro c hc
  simp only [handleCommands, List.mem_cons, List.not_mem_nil, or_false] at hc
  rcases hc with rfl | rfl | rfl | rfl | rfl | rfl | rfl | rfl | rfl
  · exact go _ _ .opened rfl rfl
  · exact go _ _ .opened rfl rfl
  · exact go _ _ .offered rfl rfl
  · exact go _ _ .offered rfl rfl
  · exact go _ _ .offered rfl rfl
  · exact go _ _ .offered rfl rfl
  · exact go _ _ .offered rfl rfl
  · exact go _ _ (.ended .disowned) rfl rfl
  · exact go _ _ .offered rfl rfl

/-- The words of a SET-LISTEN of entry 7: ASK, line A, offer timeout 255, every station, admission limit 63. -/
def listenSet : Vector Word 6 := #v[0xFF001307, 0x0F003F00, 0x2010F03F, 0x0F0FFF0F, 0, 0]

theorem witness_OperandsAreTheFieldsOfTheWords : (listenOperands listenSet).isSome = true ∧
    (listenOperands #v[0xFF001308, 0x0F003F00, 0x2010F03F, 0x0F0FFF0F, 0, 0]).isSome = false ∧
    (openOperands #v[0x000F3E02, 0x0F2010F0, 0x000F0FFF, 0, 0, 0]).isSome = true ∧
    (openOperands #v[0x000F3F02, 0x0F2010F0, 0x000F0FFF, 0, 0, 0]).isSome = false ∧
    (groupOperands (words 0x003F3F02)).isSome = true ∧ (groupOperands (words 0x00403F02)).isSome = false := by
  decide +kernel

/-- The words of an OPEN on line A for station 5, AN 3. -/
def openWords : Vector Word 6 := #v[0x00030501, 0x04080480, 0x0002030A, 0, 0, 0]

theorem open_words : openOperands openWords = some (key, params) := by decide +kernel

theorem witness_OpenCommand :
    ((latching base 0x10 openWords).latches 0x10 openWords ∧ openOperands openWords = some (key, params) ∧
      ((latching base 0x10 openWords).line .a).state = .active ∧ (latching base 0x10 openWords).lookup key = none ∧
      (latching base 0x10 openWords).lowestFree 0) ∧
    openOperands (words 0) = none ∧ ((lined .down .stopped).line .a).state = .down ∧
    ((lined .suspended .stopped).line .a).state = .suspended ∧
    (∃ i, (latching (holding (record .opened)) 0x10 openWords).lookup key = some i) ∧
    (({ crowded with addressMap := [] } : State).lookup key = none ∧
      ∀ i, ({ crowded with addressMap := [] } : State).assocAt i ≠ none) :=
  ⟨⟨rfl, open_words, rfl, rfl, base_empty 0, fun _ h => absurd h (Fin.not_lt_zero _)⟩, by decide +kernel, rfl, rfl, ⟨2, rfl⟩,
   rfl, by decide +kernel⟩

theorem witness_OfferDecisions : ∀ code,
    (latching (holding (record .offered)) code (words handle)).names (words handle)[0] 2 (record .offered) ∧
    (record .offered).state = .offered ∧
    (latching (holding (record .offered)) code (words handle)).latches code (words handle) :=
  fun _ => ⟨names_of _ _ _, rfl, rfl⟩

/-- The words of a SUBMIT of buffer 4 with a length. -/
def submitWords (length : Nat) : Vector Word 6 := #v[handle, BitVec.ofNat 32 (4 + 65536 * length), 0, 0, 0, 0]

/-- The state with an association in OPEN and buffer 4 held by the host, and a SUBMIT latched. -/
def submitting (a : Assoc) (length : Nat) : State :=
  latching ((holding a).setPool (base.pool.setState 4 .host)) 0x20 (submitWords length)

theorem submitting_names (a : Assoc) (length : Nat) : (submitting a length).names (submitWords length)[0] 2 a :=
  names_of a 0x20 (submitWords length)

theorem witness_DataCommands :
    ((submitting (record .opened) 100).names (submitWords 100)[0] 2 (record .opened) ∧
      (submitting (record .opened) 100).latches 0x20 (submitWords 100) ∧
      fieldNat (submitWords 100)[1] 0 8 = (4 : BufferNo).val ∧ (record .opened).state = .opened ∧
      fieldNat (submitWords 100)[1] 16 8 = 100 ∧ 100 ≤ (record .opened).outboundLimit.getD 0 ∧
      (submitting (record .opened) 100).bufferStateAt 4 = .host ∧
      (record .opened).sendQueue.length < (record .opened).params.sendQueueLimit) ∧
    (fieldNat (submitWords 0)[1] 16 8 = 0 ∧ (record .opened).outboundLimit.getD 0 < fieldNat (submitWords 101)[1] 16 8) ∧
    base.bufferStateAt 4 ≠ .host ∧
    ({ record .opened with params := { params with sendQueueLimit := 0 } } : Assoc).params.sendQueueLimit ≤
      (record .opened).sendQueue.length ∧
    ((latching (holding (record (.ended .disowned))) 0x21 (words handle)).names (words handle)[0] 2
        (record (.ended .disowned)) ∧ (record (.ended .disowned)).inboundQueue = []) ∧
    ({ record .closing with inboundQueue := [{ buffer := 33, length := 70 }] } : Assoc).inboundQueue =
      { buffer := 33, length := 70 } :: [] :=
  ⟨⟨submitting_names _ _, rfl, by decide +kernel, rfl, by decide +kernel, by decide, by decide +kernel, by decide⟩,
   by decide +kernel, by decide +kernel, by decide, ⟨names_of _ _ _, rfl⟩, rfl⟩

theorem witness_HoldResumeAndClose : ∀ code, ∀ a ∈ [record .opening, record .closing, record .opened, loaded .opened],
    (latching (holding a) code (words handle)).names (words handle)[0] 2 a ∧
    (latching (holding a) code (words handle)).latches code (words handle) :=
  fun _ _ _ => ⟨names_of _ _ _, rfl⟩

theorem witness_AbortAndRelease :
    ((latching (holding (record .offered)) 0x31 (words handle)).names (words handle)[0] 2 (record .offered) ∧
      (latching (holding (record .offered)) 0x31 (words handle)).latches 0x31 (words handle) ∧
      (record .offered).state.isLive = true) ∧
    ((latching (holding (record (.ended .disowned))) 0x33 (words handle)).names (words handle)[0] 2
        (record (.ended .disowned)) ∧
      (latching (holding (record (.ended .disowned))) 0x33 (words handle)).latches 0x33 (words handle) ∧
      (record (.ended .disowned)).state.isLive = false) :=
  ⟨⟨names_of _ _ _, rfl, rfl⟩, names_of _ _ _, rfl, rfl⟩

theorem witness_AbortGroupCommand :
    ((latching (holding (record .opened)) 0x32 (words 0x003F0001)).latches 0x32 (words 0x003F0001) ∧
      groupOperands (words 0x003F0001) = some (.a, 0, 63) ∧
      ((latching (holding (record .opened)) 0x32 (words 0x003F0001)).line .a).state ≠ .disabled ∧
      (record .opened).OfGroup .a 0 63 ∧ ¬ (record .opened).OfGroup .a 4 0) ∧
    groupOperands (words 0x003F0000) = none ∧ ((lined .disabled .stopped).line .a).state = .disabled := by
  refine ⟨⟨rfl, ?_⟩, ?_⟩ <;> decide +kernel

theorem witness_BufferAndTableCommands :
    (∀ code p, (latching base code p).latches code p) ∧
    (base.pool.freeList = 0 :: allBuffers.tail ∧ base.pool.reserved < base.pool.freeList.length ∧
      ({ base.pool with freeList := [] } : Pool).freeList.length ≤ base.pool.reserved) ∧
    (128 ≤ fieldNat (words 128)[0] 0 8 ∧ fieldNat (words 127)[0] 0 8 = (127 : BufferNo).val ∧
      base.bufferStateAt 127 ≠ .host ∧ (base.setPool (base.pool.setState 127 .host)).bufferStateAt 127 = .host) ∧
    (64 ≤ fieldNat (words 64)[0] 0 8 ∧ fieldNat (words 2)[0] 0 8 = (2 : Slot).val ∧ base.assocAt 2 = none ∧
      (holding (record .closing)).assocAt 2 = some (record .closing)) ∧
    (listenOperands (words 0) = none ∧ (listenOperands listenSet).isSome = true) ∧
    (8 ≤ fieldNat (words 8)[0] 0 8 ∧ fieldNat (words 7)[0] 0 8 = (7 : ListenNo).val) :=
  ⟨fun _ _ => rfl, by decide +kernel, by decide +kernel,
   ⟨by decide +kernel, by decide +kernel, base_empty 2, assocAt_setSlotRec_self base 2 _⟩, by decide +kernel,
   by decide +kernel⟩

/-! ### Witnesses: credit, register window and attention -/

/-- A pass with something to give, and one that runs out before the slot has what it waits for. -/
theorem witness_RefreshPassSharesTheCredit :
    (((Claim.begin (holding (record .opened))).serving 2).served = some 2 ∧
      ((Claim.begin (holding (record .opened))).serving 2).st.assocAt 2 = some (record .opened) ∧
      (Claim.begin base).served = none) ∧
    ((holding (record .opened)).assocAt 2 = some (record .opened) ∧
      ((holding (record .opened)).refreshPass.assocAt 2).map (·.grant) = some 4) ∧
    (((holding (record .opened)).setPool { base.pool with hostFloor := 125 }).refreshPass.assocAt 2).map (·.grant) =
      some 3 :=
  ⟨⟨rfl, assocAt_setSlotRec_self base 2 _, rfl⟩, ⟨assocAt_setSlotRec_self base 2 _, by decide +kernel⟩, by decide +kernel⟩

theorem witness_RegisterWritesTakeEffect : (base.resetAsserted = false ∧ base.mailbox.latched = none) ∧
    (latching base 0x10 (words 0)).mailbox.latched ≠ none ∧
    (0x0000007F : Word).extractLsb' 0 8 = BitVec.ofNat 8 (127 : BufferNo).val ∧
    128 ≤ ((0x00000080 : Word).extractLsb' 0 8).toNat ∧ (0x00000FFF : Word).toNat ≤ 4095 ∧
    4095 < (0x00001000 : Word).toNat ∧
    (base.timebase.taken = none ∧ still.timebase.interval = 0) ∧
    (midTick.timebase.taken ≠ none ∧ midTick.timebase.interval ≠ 0) ∧
    ((0b0010 : BitVec 4) ≠ 0 ∧ merges 0x00004300 0 0x00034301 0b0010 ∧ merges 0x00034301 0x00034364 0x00000001 0b0001) ∧
    ((0x00000064 : Word).toNat = base.timebase.interval ∧ base.timebase.interval ≤ 4095) ∧
    ((0x00000100 : Word).getLsbD 0 = base.attention.enable ∧
      ((0x00000100 : Word).extractLsb' 8 8).toNat = base.attention.threshold ∧
      ((0x00000100 : Word).extractLsb' 16 8).toNat = base.attention.holdoff) ∧
    ((0x00000014 : Word).extractLsb' 0 8).toNat = (base.line .a).grace ∧
    ((0x00000000 : Word).extractLsb' 0 8 = (base.pool.select.elim 255 fun b => BitVec.ofNat 8 b.val) ∧
      (59 : BitVec 6).toNat < 60) ∧
    (25 : BitVec 10).toNat ∉ [0, 2, 3, 4, 8, 12, 13, 14, 15, 16, 17, 26, 32, 128, 130, 137, 160, 162, 169] ∧
    ¬ (64 ≤ (124 : BitVec 10).toNat ∧ (124 : BitVec 10).toNat < 124) := by
  unfold merges
  decide +kernel

theorem witness_AttentionUnitListsAndGives :
    (whole.resetAsserted = false ∧ (0b0001 : BitVec 4).getLsbD 0 = true ∧ whole.attention.list = [.slot 2] ∧
      whole.assocAt 2 = some wholeAssoc) ∧
    (base.attention.list = [] ∧ (0b0010 : BitVec 4).getLsbD 0 = false) ∧
    ({ base.attention with list := [.line .b, .slot 2] } : Attention).list = .line .b :: [.slot 2] :=
  ⟨⟨rfl, rfl, rfl, whole_slot⟩, ⟨rfl, rfl⟩, rfl⟩

theorem witness_NotificationLineLevel :
    ({ whole with attention := { whole.attention with enable := true } } : State).notifyAsserted = true ∧
    whole.notifyAsserted = false := by decide +kernel

theorem witness_BufferWindowReachesHostBuffersOnly :
    (base.resetAsserted = false ∧ (59 : BitVec 6).toNat < 60 ∧ (0b1000 : BitVec 4) ≠ 0) ∧
    (∀ b, base.pool.select = some b → base.bufferStateAt b ≠ .host) ∧
    ((base.setPool (base.pool.setState 0 .host)).pool.select = some 0 ∧
      (base.setPool (base.pool.setState 0 .host)).bufferStateAt 0 = .host ∧
      Memory.wf (base.setPool (base.pool.setState 0 .host)).pool.memory = true) :=
  ⟨by decide +kernel, (fun b h => by cases h; decide +kernel), by decide +kernel⟩

end Sys2Proof.Tests
end

section
/-! The malformed frames (R34): what the tests of the header and of each kind's fields refuse, and the table put together from
them. -/

namespace Sys2Proof.Machine

/-! ### Ranges -/

/-- A value out of a range is below it or above it. -/
theorem within_eq_false_iff {lo hi v : Nat} : within lo hi v = false ↔ v < lo ∨ hi < v := by
  simp [within, imp_iff_not_or]

theorem limitAndCredit_eq_none_iff {limit credit : Byte} :
    limitAndCredit limit credit = none ↔ 15 < credit.toNat ∨ limit.toNat < 16 ∨ 240 < limit.toNat := by
  simp only [limitAndCredit, ite_eq_right_iff, reduceCtorEq, imp_false, Bool.not_eq_true, Bool.and_eq_false_iff,
    within_eq_false_iff, Nat.not_lt_zero, false_or, or_comm]

theorem refuseOfCode_eq_none_iff {v : Nat} : refuseOfCode v = none ↔ v = 0 ∨ 6 < v := by
  simp only [refuseOfCode, ite_eq_iff, reduceCtorEq, and_false, false_or, and_true]
  omega

/-! ### The kind fields, kind by kind -/

section KindFields

variable {kind : Byte} {rest : List Byte}

/-- The nine kind codes of R31. -/
def kindCodes : List Byte := [0x11, 0x12, 0x13, 0x20, 0x21, 0x22, 0x31, 0x32, 0x3F]

theorem parseBody_eq_none_of_unknown (h : kind ∉ kindCodes) : parseBody kind rest = none := by
  simp only [kindCodes, List.mem_cons, List.not_mem_nil, or_false, not_or, BitVec.ofNat_eq_ofNat] at h
  simp [parseBody, kindCode, h]

/-- OPEN-REQUEST and OPEN-ACCEPT: a receive limit and a credit, both in range. -/
theorem parseBody_opening_eq_none_iff (h : kind = 0x11 ∨ kind = 0x12) :
    parseBody kind rest = none ↔ rest.length ≠ 2 ∨ 15 < (rest.getD 1 0).toNat ∨
      (rest.getD 0 0).toNat < 16 ∨ 240 < (rest.getD 0 0).toNat := by
  match rest with
  | [] | [_] | _ :: _ :: _ :: _ => exact iff_of_true (by obtain rfl | rfl := h <;> rfl) (.inl (by simp))
  | [limit, credit] =>
    have reads_pair : parseBody kind [limit, credit] = none ↔ limitAndCredit limit credit = none := by
      obtain rfl | rfl := h <;> exact Option.map_eq_none_iff
    rw [reads_pair, limitAndCredit_eq_none_iff]
    simp

/-- OPEN-REFUSE: a refuse reason of R17. -/
theorem parseBody_openRefuse_eq_none_iff :
    parseBody 0x13 rest = none ↔ rest.length ≠ 1 ∨ rest.getD 0 0 = 0 ∨ 6 < (rest.getD 0 0).toNat := by
  match rest with
  | [] | _ :: _ :: _ => exact iff_of_true rfl (.inl (by simp))
  | [reason] =>
    have reads_reason : parseBody 0x13 [reason] = none ↔ refuseOfCode reason.toNat = none := Option.map_eq_none_iff
    rw [reads_reason, refuseOfCode_eq_none_iff]
    simp [BitVec.toNat_eq]

/-- DATA: a tag and a payload of one byte or more, so at least 9 bytes with header and check bytes. -/
theorem parseBody_data_eq_none_iff : parseBody 0x20 rest = none ↔ rest.length + 7 < 9 := by
  match rest with
  | [] | [_] => exact iff_of_true rfl (by simp)
  | _ :: _ :: _ => exact iff_of_false (Option.some_ne_none _) (by simp)

/-- RECEIPT: a next-expected tag of any value and a credit in range. -/
theorem parseBody_receipt_eq_none_iff : parseBody 0x21 rest = none ↔ rest.length ≠ 2 ∨ 15 < (rest.getD 1 0).toNat := by
  match rest with
  | [] | [_] | _ :: _ :: _ :: _ => exact iff_of_true rfl (.inl (by simp))
  | [next, credit] =>
    have tests_credit : parseBody 0x21 [next, credit] =
        if within 0 15 credit.toNat then some (.receipt next credit.toNat) else none := rfl
    rw [tests_credit, ite_eq_right_iff]
    simp [within]

/-- CLOSE: a final tag of any value. -/
theorem parseBody_close_eq_none_iff : parseBody 0x31 rest = none ↔ rest.length ≠ 1 := by
  match rest with
  | [] | _ :: _ :: _ => exact iff_of_true rfl (by simp)
  | [_] => exact iff_of_false (Option.some_ne_none _) (by simp)

/-- PROBE, CLOSE-CONFIRM and DISOWN: no kind fields. -/
theorem parseBody_bare_eq_none_iff (h : kind = 0x22 ∨ kind = 0x32 ∨ kind = 0x3F) :
    parseBody kind rest = none ↔ rest ≠ [] := by
  match rest with
  | [] => exact iff_of_false (by obtain rfl | rfl | rfl := h <;> exact Option.some_ne_none _) (by simp)
  | _ :: _ => exact iff_of_true (by obtain rfl | rfl | rfl := h <;> rfl) (by simp)

/-! ### The table -/

/-- The rows of the table of R34 on the kind code and the length. -/
def LengthMalformed (kind : Byte) (rest : List Byte) : Prop :=
  kind ∉ kindCodes ∨
  (kind ∈ ([0x22, 0x32, 0x3F] : List Byte) ∧ rest.length + 7 ≠ 7) ∨
  (kind ∈ ([0x13, 0x31] : List Byte) ∧ rest.length + 7 ≠ 8) ∨
  (kind ∈ ([0x11, 0x12, 0x21] : List Byte) ∧ rest.length + 7 ≠ 9) ∨
  (kind = 0x20 ∧ rest.length + 7 < 9)

/-- The rows of the table of R34 on AN, epoch and source station. -/
def HeaderMalformed (src an epoch : Byte) : Prop := 15 < an.toNat ∨ epoch = 0 ∨ src = 0 ∨ 63 ≤ src.toNat

/-- The rows of the table of R34 on the kind fields. -/
def FieldsMalformed (kind : Byte) (rest : List Byte) : Prop :=
  (kind ∈ ([0x11, 0x12, 0x21] : List Byte) ∧ 15 < (rest.getD 1 0).toNat) ∨
  (kind ∈ ([0x11, 0x12] : List Byte) ∧ ((rest.getD 0 0).toNat < 16 ∨ 240 < (rest.getD 0 0).toNat)) ∨
  (kind = 0x13 ∧ (rest.getD 0 0 = 0 ∨ 6 < (rest.getD 0 0).toNat))

theorem parseBody_eq_none_iff : parseBody kind rest = none ↔ LengthMalformed kind rest ∨ FieldsMalformed kind rest := by
  by_cases hk : kind ∈ kindCodes
  case neg => exact iff_of_true (parseBody_eq_none_of_unknown hk) (.inl (.inl hk))
  case pos =>
    simp only [kindCodes, List.mem_cons, List.not_mem_nil, or_false] at hk
    obtain rfl | rfl | rfl | rfl | rfl | rfl | rfl | rfl | rfl := hk
    · rw [parseBody_opening_eq_none_iff (.inl rfl)]; simp [LengthMalformed, FieldsMalformed, kindCodes]
    · rw [parseBody_opening_eq_none_iff (.inr rfl)]; simp [LengthMalformed, FieldsMalformed, kindCodes]
    · rw [parseBody_openRefuse_eq_none_iff]; simp [LengthMalformed, FieldsMalformed, kindCodes]
    · rw [parseBody_data_eq_none_iff]; simp [LengthMalformed, FieldsMalformed, kindCodes]
    · rw [parseBody_receipt_eq_none_iff]; simp [LengthMalformed, FieldsMalformed, kindCodes]
    · rw [parseBody_bare_eq_none_iff (.inl rfl)]; simp [LengthMalformed, FieldsMalformed, kindCodes]
    · rw [parseBody_close_eq_none_iff]; simp [LengthMalformed, FieldsMalformed, kindCodes]
    · rw [parseBody_bare_eq_none_iff (.inr (.inl rfl))]; simp [LengthMalformed, FieldsMalformed, kindCodes]
    · rw [parseBody_bare_eq_none_iff (.inr (.inr rfl))]; simp [LengthMalformed, FieldsMalformed, kindCodes]

/-- A frame is refused for its header or for its kind fields; its destination is not looked at. -/
theorem parseFrame_eq_none_iff {dst src an epoch : Byte} :
    parseFrame (dst :: src :: kind :: an :: epoch :: rest) = none ↔
      HeaderMalformed src an epoch ∨ parseBody kind rest = none := by
  have header_tests : ¬ (within 1 62 src.toNat && within 0 15 an.toNat && epoch ≠ 0) = true ↔
      HeaderMalformed src an epoch := by
    simp only [HeaderMalformed, BitVec.toNat_eq, BitVec.ofNat_eq_ofNat, BitVec.toNat_ofNat, within, Bool.and_eq_true,
      decide_eq_true_eq, ne_eq]
    omega
  rw [parseFrame, ite_eq_right_iff, Option.map_eq_none_iff, imp_iff_not_or, header_tests]

end KindFields

/-- Settles O21: the header's rows and the kind's rows, each at the test of the parser that makes them. -/
theorem malformedFramesAreThoseOfTheTable : Obligations.MalformedFramesAreThoseOfTheTable := by
  intro dst src kind an epoch rest
  rw [parseFrame_eq_none_iff, parseBody_eq_none_iff, or_left_comm]
  simp only [LengthMalformed, HeaderMalformed, FieldsMalformed, kindCodes, or_assoc]

end Sys2Proof.Machine
end

section
/-! Listen matching (R50): the model's masked comparison, one XOR and one AND of whole words, read bit by bit. -/

namespace Sys2Proof.Machine

/-- Two values agree under a mask exactly when every bit position that the mask leaves to compare holds the same bit. -/
theorem agrees_iff_getLsbD {w : Nat} {x value mask : BitVec w} :
    agrees x value mask = true ↔ ∀ k, k < w → mask.getLsbD k = false → x.getLsbD k = value.getLsbD k := by
  have bit_clear (k : Nat) (hk : k < w) : ((x ^^^ value) &&& ~~~ mask).getLsbD k = (0 : BitVec w).getLsbD k ↔
      (mask.getLsbD k = false → x.getLsbD k = value.getLsbD k) := by
    rw [BitVec.getLsbD_and, BitVec.getLsbD_xor, BitVec.getLsbD_not, BitVec.ofNat_eq_ofNat, BitVec.getLsbD_zero]
    cases mask.getLsbD k with
    | false => simp [hk]
    | true => simp
  rw [agrees, decide_eq_true_iff, BitVec.eq_of_getLsbD_eq_iff]
  exact forall₂_congr bit_clear

theorem ListenEntry.matchesRequest_iff {e : ListenEntry} {l : Line} {f : Frame} :
    e.matchesRequest l f = true ↔ e.enabled = true ∧ e.line = l ∧
      agrees f.station e.stationValue e.stationMask = true ∧ agrees f.an e.anValue e.anMask = true := by
  simp only [ListenEntry.matchesRequest, Bool.and_eq_true, decide_eq_true_eq, and_assoc]

/-- Settles O25: the entry's four tests, the two masked comparisons read bit by bit. -/
theorem listenEntryMatchesByMask : Obligations.ListenEntryMatchesByMask := by
  intro e l f
  rw [ListenEntry.matchesRequest_iff, agrees_iff_getLsbD, agrees_iff_getLsbD]

end Sys2Proof.Machine
end

section
/-! The notification line (R186, R191): the model's Boolean level, read test by test. -/

namespace Sys2Proof.Machine

/-- The four tests of the level: the reset input (R191), the enable, one listed source or more, and the threshold or the
indicator (R186). -/
theorem State.notifyAsserted_iff {s : State} :
    s.notifyAsserted = true ↔ s.resetAsserted = false ∧ s.attention.enable = true ∧ 0 < s.attention.list.length ∧
      (s.attention.threshold ≤ s.attention.list.length ∨ s.attention.indicator = true) := by
  simp only [State.notifyAsserted, Bool.and_eq_true, Bool.or_eq_true, Bool.not_eq_true', decide_eq_true_eq, and_assoc]

/-- Settles O59: the four tests of the level, a positive length being a non-empty list. -/
theorem notificationLineLevel : Obligations.NotificationLineLevel := by
  intro s
  rw [State.notifyAsserted_iff, List.length_pos_iff]

end Sys2Proof.Machine
end

section
/-! The slots in order: every slot once, and the visiting order after a pointer counted by turns (R132, R146, R147); the state put
together from its blocks. -/

namespace Sys2Proof.Machine

/-- The slots from `i` on are `i`, `i + 1` and so on, modulo 64. -/
theorem slotsFrom_eq_map (n : Nat) : ∀ i : Slot, slotsFrom n i = (List.range n).map fun k => i + Fin.ofNat 64 k := by
  induction n with
  | zero => intro i; rfl
  | succ n ih =>
    intro i
    rw [slotsFrom, ih, List.range_succ_eq_map, List.map_cons, List.map_map]
    congr 1
    · simp
    · refine List.map_congr_left fun k _ => Fin.ext ?_
      simp only [Function.comp, Fin.val_add, Fin.val_ofNat, Fin.val_one]
      omega

theorem slotsAfter_eq_map (p : Slot) : slotsAfter p = (List.range 64).map fun k => p + 1 + Fin.ofNat 64 k :=
  slotsFrom_eq_map 64 (p + 1)

/-- The slot of a turn has that turn. -/
theorem turnAfter_add (p : Slot) {k : Nat} (hk : k < 64) : turnAfter p (p + 1 + Fin.ofNat 64 k) = k := by
  rw [turnAfter, add_sub_cancel_left]
  exact Nat.mod_eq_of_lt hk

theorem turnAfter_lt (p i : Slot) : turnAfter p i < 64 := (i - (p + 1)).isLt

/-- A slot is found at its turn. -/
theorem slot_of_turnAfter (p i : Slot) : p + 1 + Fin.ofNat 64 (turnAfter p i) = i := by
  have hback : Fin.ofNat 64 (turnAfter p i) = i - (p + 1) := Fin.ext (Nat.mod_eq_of_lt (turnAfter_lt p i))
  rw [hback, add_sub_cancel]

theorem mem_slotsAfter (p i : Slot) : i ∈ slotsAfter p := by
  rw [slotsAfter_eq_map, List.mem_map]
  exact ⟨turnAfter p i, List.mem_range.2 (turnAfter_lt p i), slot_of_turnAfter p i⟩

/-- The slots after a pointer stand in the order of their turns. -/
theorem slotsAfter_sorted (p : Slot) : (slotsAfter p).Pairwise fun i j => turnAfter p i < turnAfter p j := by
  rw [slotsAfter_eq_map, List.pairwise_map]
  refine List.pairwise_lt_range.imp_of_mem fun hj hk hlt => ?_
  rwa [turnAfter_add p (List.mem_range.1 hj), turnAfter_add p (List.mem_range.1 hk)]

theorem slotsAfter_nodup (p : Slot) : (slotsAfter p).Nodup :=
  (slotsAfter_sorted p).imp fun hlt heq => by rw [heq] at hlt; exact lt_irrefl _ hlt

@[simp] theorem mem_allSlots (i : Slot) : i ∈ allSlots := mem_slotsAfter 63 i

theorem allSlots_nodup : allSlots.Nodup := slotsAfter_nodup 63

theorem slotsAfter_perm (p : Slot) : (slotsAfter p).Perm allSlots :=
  (List.perm_ext_iff_of_nodup (slotsAfter_nodup p) allSlots_nodup).2 fun i => by simp [mem_slotsAfter]

/-! ### States block by block -/

/-- Two states whose blocks are equal are equal. -/
theorem State.eq_of_blocks {s t : State} (resetAsserted : s.resetAsserted = t.resetAsserted)
    (dataOut : s.dataOut = t.dataOut) (table : s.table = t.table) (addressMap : s.addressMap = t.addressMap)
    (listen : s.listen = t.listen) (pool : s.pool = t.pool) (line : ∀ l, s.line l = t.line l)
    (timebase : s.timebase = t.timebase) (controller : s.controller = t.controller) (mailbox : s.mailbox = t.mailbox)
    (flags : s.flags = t.flags) (attention : s.attention = t.attention) (pending : s.pending = t.pending) : s = t := by
  have lineA := line .a
  have lineB := line .b
  cases s
  cases t
  simp only [State.line] at lineA lineB
  simp only [State.mk.injEq]
  exact ⟨resetAsserted, dataOut, table, addressMap, listen, pool, lineA, lineB, timebase, controller, mailbox, flags,
    attention, pending⟩

end Sys2Proof.Machine
end

section
/-! Entry to ENDED (R20): what released buffers, the lowered admitted count and the ended record change, field by field. -/

namespace Sys2Proof.Machine

/-! ### `lowerAdmitted` -/

section LowerAdmitted

variable (s : State) (o : Origin)

@[simp] theorem lowerAdmitted_resetAsserted : (s.lowerAdmitted o).resetAsserted = s.resetAsserted := by cases o <;> rfl
@[simp] theorem lowerAdmitted_dataOut : (s.lowerAdmitted o).dataOut = s.dataOut := by cases o <;> rfl
@[simp] theorem lowerAdmitted_table : (s.lowerAdmitted o).table = s.table := by cases o <;> rfl
@[simp] theorem lowerAdmitted_addressMap : (s.lowerAdmitted o).addressMap = s.addressMap := by cases o <;> rfl
@[simp] theorem lowerAdmitted_pool : (s.lowerAdmitted o).pool = s.pool := by cases o <;> rfl
@[simp] theorem lowerAdmitted_timebase : (s.lowerAdmitted o).timebase = s.timebase := by cases o <;> rfl
@[simp] theorem lowerAdmitted_controller : (s.lowerAdmitted o).controller = s.controller := by cases o <;> rfl
@[simp] theorem lowerAdmitted_mailbox : (s.lowerAdmitted o).mailbox = s.mailbox := by cases o <;> rfl
@[simp] theorem lowerAdmitted_flags : (s.lowerAdmitted o).flags = s.flags := by cases o <;> rfl
@[simp] theorem lowerAdmitted_attention : (s.lowerAdmitted o).attention = s.attention := by cases o <;> rfl
@[simp] theorem lowerAdmitted_pending : (s.lowerAdmitted o).pending = s.pending := by cases o <;> rfl
@[simp] theorem line_lowerAdmitted (l : Line) : (s.lowerAdmitted o).line l = s.line l := by cases o <;> simp [State.lowerAdmitted]
@[simp] theorem slotRec_lowerAdmitted (i : Slot) : (s.lowerAdmitted o).slotRec i = s.slotRec i := by cases o <;> rfl
@[simp] theorem assocAt_lowerAdmitted (i : Slot) : (s.lowerAdmitted o).assocAt i = s.assocAt i := by cases o <;> rfl
@[simp] theorem generation_lowerAdmitted (i : Slot) : (s.lowerAdmitted o).generation i = s.generation i := by cases o <;> rfl

/-- The admitted count of the origin's entry falls, the other entries stay (R53). -/
theorem listenAt_lowerAdmitted (n : ListenNo) : (s.lowerAdmitted o).listenAt n =
    if o = .listen n then { s.listenAt n with admitted := (s.listenAt n).admitted - 1 } else s.listenAt n := by
  cases o with
  | host => simp [State.lowerAdmitted]
  | listen m =>
    by_cases h : n = m
    · subst h; simp [State.lowerAdmitted]
    · have hm : m ≠ n := Ne.symm h
      simp [State.lowerAdmitted, listenAt_setListen_of_ne s h, hm]

end LowerAdmitted

/-! ### Raising a reason on an occupied slot -/

/-- The attention list after a reason on an occupied slot: the source joins it where it held no reason (R181). -/
theorem attention_raiseSlot {s : State} {i : Slot} {a : Assoc} (h : s.assocAt i = some a) (r : SlotReason) :
    (s.raiseSlot i r).attention = if a.reasons = .empty then s.attention.join (.slot i) else s.attention := by
  unfold State.raiseSlot
  rw [h]
  by_cases he : a.reasons = .empty <;> simp [SlotReasons.isEmpty, he]

theorem assocAt_raiseSlot_of_ne {s : State} {i j : Slot} (h : j ≠ i) (r : SlotReason) :
    (s.raiseSlot i r).assocAt j = s.assocAt j := by
  simp [State.assocAt, slotRec_raiseSlot_of_ne s h]

@[simp] theorem listenAt_raiseSlot (s : State) (i : Slot) (r : SlotReason) (n : ListenNo) :
    (s.raiseSlot i r).listenAt n = s.listenAt n := by
  simp [State.listenAt]

@[simp] theorem listenAt_raiseLine (s : State) (l : Line) (r : LineReason) (n : ListenNo) :
    (s.raiseLine l r).listenAt n = s.listenAt n := by
  simp [State.listenAt]

@[simp] theorem listenAt_handReply (s : State) (l : Line) (r : Reply) (n : ListenNo) :
    (s.handReply l r).listenAt n = s.listenAt n := by
  simp [State.listenAt]

/-! ### Released buffers -/

@[simp] theorem update_st (c : Claim) (f : State → State) : (c.update f).st = f c.st := rfl
@[simp] theorem update_trigger (c : Claim) (f : State → State) : (c.update f).trigger = c.trigger := rfl
@[simp] theorem update_served (c : Claim) (f : State → State) : (c.update f).served = c.served := rfl
@[simp] theorem begin_st (s : State) : (Claim.begin s).st = s := rfl
@[simp] theorem begin_trigger (s : State) : (Claim.begin s).trigger = false := rfl
@[simp] theorem begin_served (s : State) : (Claim.begin s).served = none := rfl

@[simp] theorem inFlight_setPool (s : State) (p : Pool) (l : Line) : (s.setPool p).inFlight l = s.inFlight l := by
  simp [State.inFlight]

@[simp] theorem inFlight_setAssoc (s : State) (i : Slot) (a : Assoc) (l : Line) : (s.setAssoc i a).inFlight l = s.inFlight l := by
  simp [State.inFlight]

/-- A buffer's state after another's is replaced. -/
theorem bufferStateAt_setState (s : State) (b c : BufferNo) (x : BufferState) :
    (s.pool.setState b x).bufferState[c] = if c = b then x else s.bufferStateAt c := setState_get s.pool b c x

section ReleaseOutbound

variable (c : Claim) (l : Line) (b : BufferNo)

@[simp] theorem inFlight_releaseOutbound (m : Line) : (c.releaseOutbound l b).st.inFlight m = c.st.inFlight m := by
  unfold Claim.releaseOutbound
  split <;> simp [Claim.returnBuffer, Claim.withTrigger]

theorem freeList_releaseOutbound : (c.releaseOutbound l b).st.pool.freeList =
    c.st.pool.freeList ++ [b].filter fun x => c.st.inFlight l ≠ some x := by
  unfold Claim.releaseOutbound
  split
  · rename_i h; simp [h]
  · rename_i h; simp [h, Claim.returnBuffer, Claim.withTrigger]

theorem bufferStateAt_releaseOutbound (x : BufferNo) : (c.releaseOutbound l b).st.bufferStateAt x =
    if x = b then (if c.st.inFlight l = some b then .retiring l else .free) else c.st.bufferStateAt x := by
  unfold Claim.releaseOutbound
  split
  · exact bufferStateAt_setState c.st b x _
  · exact bufferStateAt_setState c.st b x _

theorem trigger_releaseOutbound : (c.releaseOutbound l b).trigger =
    (c.trigger || decide (c.st.inFlight l ≠ some b)) := by
  unfold Claim.releaseOutbound
  split
  · rename_i h; simp [h]
  · rename_i h; simp [h, Claim.returnBuffer, Claim.withTrigger]

end ReleaseOutbound

section ReleaseAll

variable (l : Line) (es : List SendEntry)

theorem releaseAll_cons (e : SendEntry) (c : Claim) :
    Claim.releaseAll l (e :: es) c = Claim.releaseAll l es (c.releaseOutbound l e.buffer) := rfl

@[simp] theorem inFlight_releaseAll (c : Claim) (m : Line) :
    (Claim.releaseAll l es c).st.inFlight m = c.st.inFlight m := by
  rw [(releaseAll_frame l es c).1, inFlight_setPool]

/-- The released buffers that are not in flight join the free list in queue order (R20, R74). -/
theorem freeList_releaseAll : ∀ c : Claim, (Claim.releaseAll l es c).st.pool.freeList =
    c.st.pool.freeList ++ (es.map (·.buffer)).filter fun b => c.st.inFlight l ≠ some b := by
  induction es with
  | nil => intro c; simp [Claim.releaseAll]
  | cons e rest ih =>
    intro c
    rw [releaseAll_cons, ih, freeList_releaseOutbound, inFlight_releaseOutbound, List.append_assoc, List.map_cons,
      ← List.filter_append, List.singleton_append]

/-- A released buffer is RETIRING if it is in flight, else FREE; the others keep their states (R20, R129). -/
theorem bufferStateAt_releaseAll (x : BufferNo) : ∀ c : Claim, (Claim.releaseAll l es c).st.bufferStateAt x =
    if x ∈ es.map (·.buffer) then (if c.st.inFlight l = some x then .retiring l else .free)
    else c.st.bufferStateAt x := by
  induction es with
  | nil => intro c; simp [Claim.releaseAll]
  | cons e rest ih =>
    intro c
    rw [releaseAll_cons, ih, bufferStateAt_releaseOutbound, inFlight_releaseOutbound]
    by_cases hx : x = e.buffer
    · subst hx; simp
    · simp [hx]

/-- A release holds a trigger when it returns a buffer (R133). -/
theorem trigger_releaseAll : ∀ c : Claim, (Claim.releaseAll l es c).trigger =
    (c.trigger || es.any fun e => c.st.inFlight l ≠ some e.buffer) := by
  induction es with
  | nil => intro c; simp [Claim.releaseAll]
  | cons e rest ih =>
    intro c
    rw [releaseAll_cons, ih, trigger_releaseOutbound, List.any_cons, Bool.or_assoc, inFlight_releaseOutbound]

/-- What a release leaves of the state. -/
theorem releaseAll_st (c : Claim) : (Claim.releaseAll l es c).st = c.st.setPool { c.st.pool with
    bufferState := (Claim.releaseAll l es c).st.pool.bufferState,
    freeList := c.st.pool.freeList ++ (es.map (·.buffer)).filter fun b => c.st.inFlight l ≠ some b } := by
  rw [← freeList_releaseAll l es c]
  exact (releaseAll_frame l es c).1

@[simp] theorem served_releaseAll (c : Claim) : (Claim.releaseAll l es c).served = c.served :=
  (releaseAll_frame l es c).2

end ReleaseAll

/-! ### The ended record -/

/-- The record in ENDED, with its ENDED reason (R20). -/
def Assoc.ended (a : Assoc) (cause : EndCause) : Assoc :=
  { a.endedWith cause with reasons := { a.reasons with ended := true } }

section EndRecord

variable (s : State) (i : Slot) (a : Assoc) (cause : EndCause)

theorem assocAt_endRecord_self : (s.endRecord i a cause).assocAt i = some (a.ended cause) := by
  rw [State.endRecord, assocAt_raiseSlot_self (a := a.endedWith cause) _ (by simp)]
  rfl

theorem slotRec_endRecord_of_ne {j : Slot} (h : j ≠ i) : (s.endRecord i a cause).slotRec j = s.slotRec j := by
  simp [State.endRecord, slotRec_raiseSlot_of_ne _ h, slotRec_setAssoc_of_ne s h]

@[simp] theorem generation_endRecord (j : Slot) : (s.endRecord i a cause).generation j = s.generation j := by
  simp [State.endRecord]

@[simp] theorem addressMap_endRecord :
    (s.endRecord i a cause).addressMap = s.addressMap.filter fun e => e.key ≠ a.key := by
  simp [State.endRecord]

@[simp] theorem pool_endRecord :
    (s.endRecord i a cause).pool = { s.pool with reserved := s.pool.reserved - a.grant } := by
  simp [State.endRecord]

@[simp] theorem line_endRecord (l : Line) : (s.endRecord i a cause).line l = s.line l := by
  simp [State.endRecord]

theorem listenAt_endRecord (n : ListenNo) : (s.endRecord i a cause).listenAt n =
    if a.origin = .listen n then { s.listenAt n with admitted := (s.listenAt n).admitted - 1 } else s.listenAt n := by
  simp [State.endRecord, listenAt_lowerAdmitted]

theorem attention_endRecord : (s.endRecord i a cause).attention =
    if a.reasons = .empty then s.attention.join (.slot i) else s.attention := by
  rw [State.endRecord, attention_raiseSlot (a := a.endedWith cause) (by simp)]
  simp [Assoc.endedWith]

@[simp] theorem mailbox_endRecord : (s.endRecord i a cause).mailbox = s.mailbox := by simp [State.endRecord]
@[simp] theorem controller_endRecord : (s.endRecord i a cause).controller = s.controller := by simp [State.endRecord]
@[simp] theorem timebase_endRecord : (s.endRecord i a cause).timebase = s.timebase := by simp [State.endRecord]
@[simp] theorem pending_endRecord : (s.endRecord i a cause).pending = s.pending := by simp [State.endRecord]
@[simp] theorem resetAsserted_endRecord : (s.endRecord i a cause).resetAsserted = s.resetAsserted := by simp [State.endRecord]
@[simp] theorem dataOut_endRecord : (s.endRecord i a cause).dataOut = s.dataOut := by simp [State.endRecord]
@[simp] theorem flags_endRecord : (s.endRecord i a cause).flags = s.flags := by simp [State.endRecord]

end EndRecord

/-! ### `endAssoc` -/

section EndAssoc

variable {c : Claim} {i : Slot} {a : Assoc} (cause : EndCause)

theorem endAssoc_of_live (h : c.st.assocAt i = some a) (hl : a.state.isLive = true) : c.endAssoc i cause =
    (Claim.releaseAll a.key.line a.sendQueue c).update fun s => s.endRecord i a cause := by
  simp [Claim.endAssoc, h, hl]

/-- A second cause has no effect (R21). -/
theorem endAssoc_of_ended (h : c.st.assocAt i = some a) (hl : a.state.isLive = false) : c.endAssoc i cause = c := by
  simp [Claim.endAssoc, h, hl]

theorem endAssoc_of_free (h : c.st.assocAt i = none) : c.endAssoc i cause = c := by
  simp [Claim.endAssoc, h]

theorem assocAt_endAssoc_self (h : c.st.assocAt i = some a) (hl : a.state.isLive = true) :
    (c.endAssoc i cause).st.assocAt i = some (a.ended cause) := by
  rw [endAssoc_of_live cause h hl]
  exact assocAt_endRecord_self _ i a cause

end EndAssoc

/-- An entry to ENDED ends a live association in the slot, or does nothing. -/
theorem endAssoc_cases (c : Claim) (i : Slot) (cause : EndCause) :
    c.endAssoc i cause = c ∨ ∃ a, c.st.assocAt i = some a ∧ a.state.isLive = true ∧
      c.endAssoc i cause = (Claim.releaseAll a.key.line a.sendQueue c).update fun s => s.endRecord i a cause := by
  cases h : c.st.assocAt i with
  | none => exact .inl (endAssoc_of_free cause h)
  | some a =>
    cases hl : a.state.isLive with
    | false => exact .inl (endAssoc_of_ended cause h hl)
    | true => exact .inr ⟨a, rfl, hl, endAssoc_of_live cause h hl⟩

section EndAssocFrame

variable (c : Claim) (i : Slot) (cause : EndCause)

/-- What entry to ENDED leaves alone: everything but slots, map, listen table, pool and attention unit. -/
theorem endAssoc_frame : (c.endAssoc i cause).st = { c.st with
    table := (c.endAssoc i cause).st.table, addressMap := (c.endAssoc i cause).st.addressMap,
    listen := (c.endAssoc i cause).st.listen, pool := (c.endAssoc i cause).st.pool,
    attention := (c.endAssoc i cause).st.attention } := by
  obtain he | ⟨a, -, -, he⟩ := endAssoc_cases c i cause
  · rw [he]
  · have hline (l : Line) : (c.endAssoc i cause).st.line l = c.st.line l := by
      rw [he, update_st, line_endRecord, releaseAll_st, line_setPool]
    refine State.eq_of_blocks ?_ ?_ rfl rfl rfl rfl (fun l => ?_) ?_ ?_ ?_ ?_ rfl ?_
    case refine_3 =>
      rw [hline]
      cases l <;> rfl
    all_goals
      rw [he, update_st, releaseAll_st]
      simp

@[simp] theorem line_endAssoc (l : Line) : (c.endAssoc i cause).st.line l = c.st.line l := by
  rw [endAssoc_frame]
  cases l <;> rfl

@[simp] theorem mailbox_endAssoc : (c.endAssoc i cause).st.mailbox = c.st.mailbox := by rw [endAssoc_frame]
@[simp] theorem controller_endAssoc : (c.endAssoc i cause).st.controller = c.st.controller := by rw [endAssoc_frame]
@[simp] theorem timebase_endAssoc : (c.endAssoc i cause).st.timebase = c.st.timebase := by rw [endAssoc_frame]
@[simp] theorem pending_endAssoc : (c.endAssoc i cause).st.pending = c.st.pending := by rw [endAssoc_frame]

@[simp] theorem inFlight_endAssoc (l : Line) : (c.endAssoc i cause).st.inFlight l = c.st.inFlight l := by
  simp [State.inFlight]

@[simp] theorem generation_endAssoc (j : Slot) : (c.endAssoc i cause).st.generation j = c.st.generation j := by
  obtain he | ⟨a, -, -, he⟩ := endAssoc_cases c i cause
  · rw [he]
  · rw [he, update_st, generation_endRecord, releaseAll_st, generation_setPool]

theorem slotRec_endAssoc_of_ne {j : Slot} (h : j ≠ i) : (c.endAssoc i cause).st.slotRec j = c.st.slotRec j := by
  obtain he | ⟨a, -, -, he⟩ := endAssoc_cases c i cause
  · rw [he]
  · rw [he, update_st, slotRec_endRecord_of_ne _ _ _ _ h, releaseAll_st, slotRec_setPool]

theorem assocAt_endAssoc_of_ne {j : Slot} (h : j ≠ i) : (c.endAssoc i cause).st.assocAt j = c.st.assocAt j := by
  simp [State.assocAt, slotRec_endAssoc_of_ne c i cause h]

@[simp] theorem served_endAssoc : (c.endAssoc i cause).served = c.served := by
  obtain he | ⟨a, -, -, he⟩ := endAssoc_cases c i cause
  · rw [he]
  · rw [he, update_served, served_releaseAll]

@[simp] theorem memory_endAssoc : (c.endAssoc i cause).st.pool.memory = c.st.pool.memory := by
  obtain he | ⟨a, -, -, he⟩ := endAssoc_cases c i cause
  · rw [he]
  · rw [he, update_st, pool_endRecord, releaseAll_st]
    rfl

end EndAssocFrame

/-- Settles O30: the buffers by the rule for released ones, the rest by the rules for the ended record. -/
theorem entryToEndedEffects : Obligations.EntryToEndedEffects := by
  intro c i a cause h
  refine ⟨fun hl => ?_, fun hl => endAssoc_of_ended cause h hl⟩
  have hst : (c.endAssoc i cause).st = (Claim.releaseAll a.key.line a.sendQueue c).st.endRecord i a cause := by
    rw [endAssoc_of_live cause h hl, update_st]
  have hpool : (c.endAssoc i cause).st.pool = { c.st.pool with
      bufferState := (Claim.releaseAll a.key.line a.sendQueue c).st.pool.bufferState,
      freeList := c.st.pool.freeList ++
        (a.sendQueue.map (·.buffer)).filter fun b => c.st.inFlight a.key.line ≠ some b,
      reserved := c.st.pool.reserved - a.grant } := by
    rw [hst, pool_endRecord, releaseAll_st]
    rfl
  refine ⟨assocAt_endAssoc_self cause h hl, generation_endAssoc .., fun j hj => slotRec_endAssoc_of_ne _ _ _ hj, ?_,
    fun b => ?_, by rw [hpool], by rw [hpool], by rw [hpool], by rw [hpool], by rw [hpool], fun n => ?_, ?_,
    fun l => line_endAssoc .., mailbox_endAssoc .., controller_endAssoc .., served_endAssoc .., ?_⟩
  · rw [hst, addressMap_endRecord, releaseAll_st, setPool_addressMap]
  · rw [← bufferStateAt_releaseAll, State.bufferStateAt, hpool]
    rfl
  · rw [hst, listenAt_endRecord, releaseAll_st, listenAt_setPool]
  · rw [hst, attention_endRecord, releaseAll_st, setPool_attention]
    rfl
  · rw [endAssoc_of_live cause h hl, update_trigger, trigger_releaseAll]
    simp

end Sys2Proof.Machine
end

section
/-! The credit refresh arbiter (R96, R132 to R135): how the units of a pass are shared among the slots,
and the pass of a claim. -/

namespace Sys2Proof.Machine

/-! ### A raised record -/

/-- A raise as R96 words it: G rises, and RECEIPT is owed where the limit passes the last advertised one. -/
theorem raised_eq (a : Assoc) (n : Nat) : a.raised n = { a with
    grant := a.grant + n
    pendingControl := { a.pendingControl with
      receipt := a.pendingControl.receipt || (a.state.receives &&
        decide (1 ≤ tagDistance a.advertised (a.expected + BitVec.ofNat 8 (a.grant + n)) ∧
          tagDistance a.advertised (a.expected + BitVec.ofNat 8 (a.grant + n)) ≤ 127)) } } := by
  have hb : ({ a with grant := a.grant + n } : Assoc).beyondAdvertised =
      decide (1 ≤ tagDistance a.advertised (a.expected + BitVec.ofNat 8 (a.grant + n)) ∧
        tagDistance a.advertised (a.expected + BitVec.ofNat 8 (a.grant + n)) ≤ 127) := by
    rw [Bool.decide_and]
    rfl
  rw [Assoc.raised, ← hb]
  cases ({ a with grant := a.grant + n } : Assoc).beyondAdvertised <;> cases hr : a.state.receives <;>
    simp [Assoc.oweIf, Assoc.owe, ControlSet.add, ControlSet.put]

section RaiseGrant

variable (s : State) (i : Slot) (a : Assoc) (n : Nat)

@[simp] theorem assocAt_raiseGrant_self : (s.raiseGrant i a n).assocAt i = some (a.raised n) := by
  simp [State.raiseGrant]

theorem assocAt_raiseGrant_of_ne {j : Slot} (h : j ≠ i) : (s.raiseGrant i a n).assocAt j = s.assocAt j := by
  simp [State.raiseGrant, assocAt_setAssoc_of_ne s h]

@[simp] theorem pool_raiseGrant :
    (s.raiseGrant i a n).pool = { s.pool with reserved := s.pool.reserved + n } := rfl

@[simp] theorem generation_raiseGrant (j : Slot) : (s.raiseGrant i a n).generation j = s.generation j := by
  simp [State.raiseGrant]

@[simp] theorem line_raiseGrant (l : Line) : (s.raiseGrant i a n).line l = s.line l := by simp [State.raiseGrant]

end RaiseGrant

/-! ### The shares of a pass -/

/-- What the association in a slot waits for; a FREE slot waits for nothing (R95). -/
def State.wantsAt (s : State) (i : Slot) : Nat := (s.assocAt i).elim 0 (·.wants)

/-- How many units a pass over `slots` gives each slot while `avail` last (R132, R135). -/
def State.shares (s : State) : List Slot → Nat → Slot → Nat
  | [], _, _ => 0
  | i :: rest, avail, j =>
    if j = i then min (s.wantsAt i) avail else s.shares rest (avail - min (s.wantsAt i) avail) j

/-- The last slot of `slots` that gets a unit, else the pointer as it was (R132). -/
def lastRaised (n : Slot → Nat) : List Slot → Slot → Slot
  | [], p => p
  | i :: rest, p => lastRaised n rest (if n i = 0 then p else i)

section Shares

variable (s : State)

theorem shares_of_not_mem {slots : List Slot} {j : Slot} (h : j ∉ slots) : ∀ avail, s.shares slots avail j = 0 := by
  induction slots with
  | nil => intro avail; rfl
  | cons i rest ih =>
    intro avail
    rw [List.mem_cons, not_or] at h
    rw [State.shares, if_neg h.1, ih h.2]

theorem shares_le_wantsAt (slots : List Slot) (j : Slot) : ∀ avail, s.shares slots avail j ≤ s.wantsAt j := by
  induction slots with
  | nil => intro avail; exact Nat.zero_le _
  | cons i rest ih =>
    intro avail
    rw [State.shares]
    split
    · rename_i h; rw [h]; exact Nat.min_le_left _ _
    · exact ih _

theorem shares_zero (slots : List Slot) (j : Slot) : s.shares slots 0 j = 0 := by
  induction slots with
  | nil => rfl
  | cons i rest ih =>
    rw [State.shares]
    split
    · exact Nat.min_zero _
    · simpa using ih

/-- Behind the first slot the shares are those of the rest. -/
theorem map_shares_cons {i : Slot} {rest : List Slot} (hi : i ∉ rest) (avail : Nat) :
    (i :: rest).map (s.shares (i :: rest) avail) =
      min (s.wantsAt i) avail :: rest.map (s.shares rest (avail - min (s.wantsAt i) avail)) := by
  rw [List.map_cons, State.shares, if_pos rfl]
  congr 1
  refine List.map_congr_left fun j hj => ?_
  rw [State.shares, if_neg fun h : j = i => hi (h ▸ hj)]

theorem sum_shares_le {slots : List Slot} (hn : slots.Nodup) :
    ∀ avail, (slots.map (s.shares slots avail)).sum ≤ avail := by
  induction slots with
  | nil => intro avail; exact Nat.zero_le _
  | cons i rest ih =>
    intro avail
    obtain ⟨hi, hrest⟩ := List.nodup_cons.1 hn
    rw [map_shares_cons s hi, List.sum_cons]
    have := ih hrest (avail - min (s.wantsAt i) avail)
    omega

/-- A slot that gets less than it waits for has used up what was available (R135). -/
theorem sum_shares_of_short {slots : List Slot} (hn : slots.Nodup) {j : Slot} (hj : j ∈ slots) : ∀ avail,
    s.shares slots avail j < s.wantsAt j → (slots.map (s.shares slots avail)).sum = avail := by
  induction slots with
  | nil => cases hj
  | cons i rest ih =>
    intro avail hlt
    obtain ⟨hi, hrest⟩ := List.nodup_cons.1 hn
    rw [map_shares_cons s hi, List.sum_cons]
    have hle := sum_shares_le s hrest (avail - min (s.wantsAt i) avail)
    by_cases hji : j = i
    · subst hji
      rw [State.shares, if_pos rfl] at hlt
      omega
    · rw [State.shares, if_neg hji] at hlt
      have := ih hrest ((List.mem_cons.1 hj).resolve_left hji) _ hlt
      omega

/-- Slots behind one that gets less than it waits for get nothing (R135). -/
theorem shares_behind_short {R : Slot → Slot → Prop} {slots : List Slot} (hs : slots.Pairwise R)
    (hirr : ∀ x y, R x y → ¬ R y x) {j k : Slot} (hj : j ∈ slots) (hR : R j k) : ∀ avail,
    s.shares slots avail j < s.wantsAt j → s.shares slots avail k = 0 := by
  induction slots with
  | nil => cases hj
  | cons i rest ih =>
    intro avail hlt
    obtain ⟨hi, hrest⟩ := List.pairwise_cons.1 hs
    have hjk : k ≠ j := fun h => hirr _ _ (h ▸ hR) (h ▸ hR)
    by_cases hji : j = i
    · subst hji
      rw [State.shares, if_pos rfl] at hlt
      have hall : avail - min (s.wantsAt j) avail = 0 := by omega
      rw [State.shares, if_neg hjk, hall, shares_zero]
    · have hjr := (List.mem_cons.1 hj).resolve_left hji
      have hki : k ≠ i := fun h => hirr _ _ (hi j hjr) (h ▸ hR)
      rw [State.shares, if_neg hji] at hlt
      rw [State.shares, if_neg hki]
      exact ih hrest hjr _ hlt

theorem lastRaised_congr {n m : Slot → Nat} {slots : List Slot} (h : ∀ i ∈ slots, n i = m i) : ∀ p,
    lastRaised n slots p = lastRaised m slots p := by
  induction slots with
  | nil => intro p; rfl
  | cons i rest ih =>
    intro p
    rw [lastRaised, lastRaised, h i (List.mem_cons_self ..)]
    exact ih (fun j hj => h j (List.mem_cons_of_mem _ hj)) _

theorem lastRaised_of_zero {n : Slot → Nat} {slots : List Slot} (h : ∀ i ∈ slots, n i = 0) (p : Slot) :
    lastRaised n slots p = p := by
  induction slots with
  | nil => rfl
  | cons i rest ih =>
    rw [lastRaised, if_pos (h i (List.mem_cons_self ..))]
    exact ih fun j hj => h j (List.mem_cons_of_mem _ hj)

/-- A slot that gets a unit, with none behind it that does, is the last raised. -/
theorem lastRaised_eq {n : Slot → Nat} {R : Slot → Slot → Prop} {slots : List Slot} (hs : slots.Pairwise R) {j : Slot}
    (hj : j ∈ slots) (hn : n j ≠ 0) (hzero : ∀ k, R j k → n k = 0) : ∀ p, lastRaised n slots p = j := by
  induction slots with
  | nil => cases hj
  | cons i rest ih =>
    intro p
    obtain ⟨hi, hrest⟩ := List.pairwise_cons.1 hs
    rw [lastRaised]
    by_cases hji : j = i
    · subst hji
      rw [if_neg hn]
      exact lastRaised_of_zero (fun k hk => hzero k (hi k hk)) _
    · exact ih hrest ((List.mem_cons.1 hj).resolve_left hji) _

end Shares

/-! ### What a pass leaves -/

/-- The record of a slot after it got `n` units. -/
def Assoc.given (a : Assoc) (n : Nat) : Assoc := if n = 0 then a else a.raised n

@[simp] theorem given_zero (a : Assoc) : a.given 0 = a := rfl

/-- A pass gives each slot its share, and no other slot anything. -/
theorem passLoop_effects (slots : List Slot) (hn : slots.Nodup) : ∀ (avail : Nat) (s : State),
    (∀ i, (passLoop slots avail s).assocAt i = (s.assocAt i).map (·.given (s.shares slots avail i))) ∧
    (passLoop slots avail s).pool.reserved = s.pool.reserved + (slots.map (s.shares slots avail)).sum ∧
    (passLoop slots avail s).pool.refreshPtr = lastRaised (s.shares slots avail) slots s.pool.refreshPtr := by
  induction slots with
  | nil =>
    intro avail s
    refine ⟨fun i => ?_, rfl, rfl⟩
    cases h : s.assocAt i <;> simp [passLoop, State.shares, h]
  | cons i rest ih =>
    intro avail s
    obtain ⟨hi, hrest⟩ := List.nodup_cons.1 hn
    have hother {j : Slot} (hj : j ∈ rest) : s.shares (i :: rest) avail j =
        s.shares rest (avail - min (s.wantsAt i) avail) j := by
      rw [State.shares, if_neg fun h : j = i => hi (h ▸ hj)]
    have hself : s.shares (i :: rest) avail i = min (s.wantsAt i) avail := by rw [State.shares, if_pos rfl]
    rw [map_shares_cons s hi, List.sum_cons, lastRaised, hself,
      lastRaised_congr fun j hj => hother hj]
    by_cases hz : min (s.wantsAt i) avail = 0
    · have hskip : passLoop (i :: rest) avail s = passLoop rest avail s := by
        rw [passLoop]
        split
        · rfl
        · rename_i a ha
          have hw : a.wants = s.wantsAt i := by simp [State.wantsAt, ha]
          rw [hw, if_pos hz]
      obtain ⟨hslots, hres, hptr⟩ := ih hrest avail s
      rw [hskip, hz, Nat.sub_zero, Nat.zero_add, if_pos rfl]
      refine ⟨fun j => ?_, hres, hptr⟩
      rw [hslots, State.shares]
      by_cases hji : j = i
      · rw [if_pos hji, hz, shares_of_not_mem s (hji ▸ hi)]
      · rw [if_neg hji, hz, Nat.sub_zero]
    · obtain ⟨a, ha⟩ : ∃ a, s.assocAt i = some a := by
        cases h : s.assocAt i with
        | none => exact absurd (by simp [State.wantsAt, h]) hz
        | some a => exact ⟨a, rfl⟩
      have hw : a.wants = s.wantsAt i := by simp [State.wantsAt, ha]
      have hraise : passLoop (i :: rest) avail s = passLoop rest (avail - min (s.wantsAt i) avail)
          ((s.raiseGrant i a (min (s.wantsAt i) avail)).setPool
            { (s.raiseGrant i a (min (s.wantsAt i) avail)).pool with refreshPtr := i }) := by
        rw [passLoop, ha]
        dsimp only
        rw [hw, if_neg hz]
      generalize hm : min (s.wantsAt i) avail = m at *
      generalize hu : (s.raiseGrant i a m).setPool { (s.raiseGrant i a m).pool with refreshPtr := i } = u at *
      have hassoc (j : Slot) : u.assocAt j = if j = i then some (a.raised m) else s.assocAt j := by
        rw [← hu, assocAt_setPool]
        split
        · rename_i h; rw [h, assocAt_raiseGrant_self]
        · rename_i h; rw [assocAt_raiseGrant_of_ne s i a m h]
      have hwants (j : Slot) (hj : j ≠ i) : u.wantsAt j = s.wantsAt j := by
        simp [State.wantsAt, hassoc, hj]
      have hshares (slots' : List Slot) (hs : i ∉ slots') : ∀ n j, u.shares slots' n j = s.shares slots' n j := by
        induction slots' with
        | nil => intro n j; rfl
        | cons k ks ihk =>
          intro n j
          rw [List.mem_cons, not_or] at hs
          rw [State.shares, State.shares, hwants k (Ne.symm hs.1), ihk hs.2]
      obtain ⟨hslots, hres, hptr⟩ := ih hrest (avail - m) u
      have hfun : u.shares rest (avail - m) = s.shares rest (avail - m) := funext (hshares rest hi _)
      rw [hfun] at hslots hres hptr
      rw [hraise, if_neg hz]
      refine ⟨fun j => ?_, ?_, ?_⟩
      · rw [hslots, hassoc, State.shares]
        by_cases hji : j = i
        · rw [if_pos hji, if_pos hji, hm, hji, shares_of_not_mem s hi, ha]
          simp [Assoc.given, hz]
        · rw [if_neg hji, if_neg hji, hm]
      · rw [hres, ← hu]
        simp only [setPool_pool, pool_raiseGrant]
        omega
      · rw [hptr, ← hu]
        rfl

@[simp] theorem generation_passLoop (slots : List Slot) (n : Nat) (s : State) (i : Slot) :
    (passLoop slots n s).generation i = s.generation i := (passLoop_slot slots n s i).1

/-- With nothing available a pass does nothing. -/
theorem passLoop_zero (slots : List Slot) (s : State) : passLoop slots 0 s = s := by
  induction slots with
  | nil => rfl
  | cons i rest ih =>
    rw [passLoop]
    split
    · exact ih
    · simpa using ih

/-- A slot whose association waits for nothing keeps its record through a pass. -/
theorem assocAt_passLoop_of_sated {slots : List Slot} (hn : slots.Nodup) {s : State} {i : Slot} {a : Assoc}
    (h : s.assocAt i = some a) (hw : a.wants = 0) (avail : Nat) : (passLoop slots avail s).assocAt i = some a := by
  have hzero : s.wantsAt i = 0 := by simp [State.wantsAt, h, hw]
  have hshare : s.shares slots avail i = 0 := Nat.eq_zero_of_le_zero (hzero ▸ shares_le_wantsAt s slots i avail)
  rw [(passLoop_effects slots hn avail s).1, h, hshare]
  rfl

/-! ### The pass that serves an association first (R134) -/

/-- The state in which the served association has had its first raise. -/
def State.served (s : State) (i : Slot) (a : Assoc) : State :=
  if min a.params.inboundQuota s.available = 0 then s
  else s.raiseGrant i a (min a.params.inboundQuota s.available)

section Serving

variable {s : State} {i : Slot} {a : Assoc}

theorem assocAt_served_self (h : s.assocAt i = some a) :
    (s.served i a).assocAt i = some (a.given (min a.params.inboundQuota s.available)) := by
  unfold State.served Assoc.given
  split <;> simp [h]

theorem pool_served : (s.served i a).pool =
    { s.pool with reserved := s.pool.reserved + min a.params.inboundQuota s.available } := by
  unfold State.served
  split
  · rename_i h; rw [h]; rfl
  · rfl

/-- The served association is sated, or nothing is left. -/
theorem wants_given_served (a : Assoc) (n : Nat) (h : n = a.params.inboundQuota) : (a.given n).wants = 0 := by
  have hgiven : (a.given n).grant = a.grant + n ∧ (a.given n).params = a.params ∧
      (a.given n).inboundQueue = a.inboundQueue := by
    unfold Assoc.given
    split
    · rename_i hz; subst hz; exact ⟨rfl, rfl, rfl⟩
    · rw [raised_eq]; exact ⟨rfl, rfl, rfl⟩
  obtain ⟨hg, hp, hq⟩ := hgiven
  unfold Assoc.wants Assoc.target
  rw [hg, hp, hq]
  split <;> omega

/-- The pass of a creation or of ACCEPT: the first raise, then an ordinary pass with what remains (R134). -/
theorem servingPass_eq (h : s.assocAt i = some a) : s.servingPass i = (s.served i a).refreshPass := by
  have hp : (s.served i a).pool = { s.pool with
      reserved := s.pool.reserved + min a.params.inboundQuota s.available } := pool_served
  have hptr : (s.served i a).pool.refreshPtr = s.pool.refreshPtr := by rw [hp]
  have havail : (s.served i a).available = s.available - min a.params.inboundQuota s.available := by
    have hs : s.available = s.pool.freeList.length - (s.pool.reserved + s.pool.hostFloor) := rfl
    rw [State.available, hp]
    dsimp only
    omega
  rw [State.refreshPass, hptr, havail, State.servingPass, h]
  rfl

/-- The served association ends with its first raise and no other (R134). -/
theorem assocAt_servingPass_self (h : s.assocAt i = some a) :
    (s.servingPass i).assocAt i = some (a.given (min a.params.inboundQuota s.available)) := by
  rw [servingPass_eq h, State.refreshPass]
  by_cases hq : a.params.inboundQuota ≤ s.available
  · refine assocAt_passLoop_of_sated (slotsAfter_nodup _) (assocAt_served_self h) ?_ _
    exact wants_given_served a _ (Nat.min_eq_left hq)
  · have hnone : (s.served i a).available = 0 := by
      have hs : s.available = s.pool.freeList.length - (s.pool.reserved + s.pool.hostFloor) := rfl
      rw [State.available, pool_served]
      dsimp only
      omega
    rw [hnone, passLoop_zero, assocAt_served_self h]

end Serving

/-! ### The end of a claim (R133) -/

/-- A claim ends with no pass, an ordinary pass, or a pass behind a first raise. -/
theorem finish_cases (c : Claim) : c.finish = c.st ∨ c.finish = c.st.refreshPass ∨
    ∃ i a, c.served = some i ∧ c.st.assocAt i = some a ∧ c.finish = (c.st.served i a).refreshPass := by
  unfold Claim.finish
  split
  · rename_i i hi
    cases h : c.st.assocAt i with
    | none => exact .inr (.inl (by simp [State.servingPass, h]))
    | some a => exact .inr (.inr ⟨i, a, hi, h, servingPass_eq h⟩)
  · split
    · exact .inr (.inl rfl)
    · exact .inl rfl

/-- The first raise and the passes change slots, the reserved count and the refresh pointer alone. -/
theorem refreshPass_frame (s : State) : s.refreshPass = { s with
    table := s.refreshPass.table,
    pool := { s.pool with reserved := s.refreshPass.pool.reserved, refreshPtr := s.refreshPass.pool.refreshPtr } } :=
  passLoop_frame _ _ _

theorem served_frame (s : State) (i : Slot) (a : Assoc) : s.served i a = { s with
    table := (s.served i a).table, pool := { s.pool with reserved := (s.served i a).pool.reserved } } := by
  unfold State.served
  split <;> rfl

theorem finish_frame (c : Claim) : c.finish = { c.st with
    table := c.finish.table,
    pool := { c.st.pool with reserved := c.finish.pool.reserved, refreshPtr := c.finish.pool.refreshPtr } } := by
  obtain he | he | ⟨i, a, -, -, he⟩ := finish_cases c
  · rw [he]
  · rw [he]
    exact refreshPass_frame _
  · rw [he, refreshPass_frame, served_frame]

section FinishFields

variable (c : Claim)

@[simp] theorem finish_resetAsserted : c.finish.resetAsserted = c.st.resetAsserted := by rw [finish_frame]
@[simp] theorem finish_dataOut : c.finish.dataOut = c.st.dataOut := by rw [finish_frame]
@[simp] theorem finish_addressMap : c.finish.addressMap = c.st.addressMap := by rw [finish_frame]
@[simp] theorem finish_listen : c.finish.listen = c.st.listen := by rw [finish_frame]
@[simp] theorem finish_timebase : c.finish.timebase = c.st.timebase := by rw [finish_frame]
@[simp] theorem finish_controller : c.finish.controller = c.st.controller := by rw [finish_frame]
@[simp] theorem finish_mailbox : c.finish.mailbox = c.st.mailbox := by rw [finish_frame]
@[simp] theorem finish_flags : c.finish.flags = c.st.flags := by rw [finish_frame]
@[simp] theorem finish_attention : c.finish.attention = c.st.attention := by rw [finish_frame]
@[simp] theorem finish_pending : c.finish.pending = c.st.pending := by rw [finish_frame]

@[simp] theorem line_finish (l : Line) : c.finish.line l = c.st.line l := by
  rw [finish_frame]
  cases l <;> rfl

@[simp] theorem listenAt_finish (n : ListenNo) : c.finish.listenAt n = c.st.listenAt n := by
  simp [State.listenAt]

theorem finish_pool : c.finish.pool =
    { c.st.pool with reserved := c.finish.pool.reserved, refreshPtr := c.finish.pool.refreshPtr } := by
  rw [finish_frame]

@[simp] theorem freeList_finish : c.finish.pool.freeList = c.st.pool.freeList := by rw [finish_pool]
@[simp] theorem bufferState_finish : c.finish.pool.bufferState = c.st.pool.bufferState := by rw [finish_pool]
@[simp] theorem memory_finish : c.finish.pool.memory = c.st.pool.memory := by rw [finish_pool]

@[simp] theorem bufferStateAt_finish (b : BufferNo) : c.finish.bufferStateAt b = c.st.bufferStateAt b := by
  simp [State.bufferStateAt]

@[simp] theorem bufferByte_finish (b : BufferNo) (k : Nat) : c.finish.bufferByte b k = c.st.bufferByte b k := by
  simp [State.bufferByte]

/-- What the end of a claim may do to a slot: raise G and owe RECEIPT. -/
theorem finish_slot (i : Slot) : c.finish.generation i = c.st.generation i ∧
    (c.st.assocAt i = none → c.finish.assocAt i = none) ∧
    ∀ a, c.st.assocAt i = some a → ∃ g x, a.grant ≤ g ∧ c.finish.assocAt i =
      some { a with grant := g, pendingControl := { a.pendingControl with receipt := x } } := by
  obtain he | he | ⟨j, b, -, hb, he⟩ := finish_cases c
  · rw [he]
    exact ⟨rfl, id, fun a h => ⟨a.grant, a.pendingControl.receipt, le_refl _, h⟩⟩
  · rw [he]
    exact passLoop_slot _ _ _ i
  · rw [he]
    obtain ⟨hgen, hfree, hsome⟩ := passLoop_slot (slotsAfter (c.st.served j b).pool.refreshPtr)
      (c.st.served j b).available (c.st.served j b) i
    have hserved_gen : (c.st.served j b).generation i = c.st.generation i := by
      unfold State.served
      split <;> simp
    by_cases hij : i = j
    · subst hij
      refine ⟨hgen.trans hserved_gen, fun h => (by rw [hb] at h; cases h), fun a ha => ?_⟩
      obtain rfl : b = a := by rw [hb] at ha; exact Option.some.inj ha
      obtain ⟨g, x, hg, e⟩ := hsome _ (assocAt_served_self hb)
      unfold Assoc.given at hg e
      split at hg
      · rw [if_pos ‹_›] at e
        exact ⟨g, x, hg, e⟩
      · rw [if_neg ‹_›, raised_eq] at e
        rw [raised_eq] at hg
        exact ⟨g, x, le_trans (Nat.le_add_right _ _) hg, e⟩
    · have hother : (c.st.served j b).assocAt i = c.st.assocAt i := by
        unfold State.served
        split
        · rfl
        · exact assocAt_raiseGrant_of_ne _ _ _ _ hij
      rw [hother] at hfree hsome
      exact ⟨hgen.trans hserved_gen, hfree, hsome⟩

@[simp] theorem generation_finish (i : Slot) : c.finish.generation i = c.st.generation i := (finish_slot c i).1

theorem assocAt_finish_of_none {i : Slot} (h : c.st.assocAt i = none) : c.finish.assocAt i = none :=
  (finish_slot c i).2.1 h

/-- A claim without a trigger ends as it stands (R133). -/
theorem finish_of_idle {c : Claim} (hs : c.served = none) (ht : c.trigger = false) : c.finish = c.st := by
  simp [Claim.finish, hs, ht]

theorem finish_of_trigger {c : Claim} (hs : c.served = none) (ht : c.trigger = true) : c.finish = c.st.refreshPass := by
  simp [Claim.finish, hs, ht]

theorem finish_of_served {c : Claim} {i : Slot} (hs : c.served = some i) : c.finish = c.st.servingPass i := by
  simp [Claim.finish, hs]

/-- An ended association waits for nothing, so its record stays through a pass. -/
theorem wants_of_not_credits {a : Assoc} (h : a.state.credits = false) : a.wants = 0 := by
  simp [Assoc.wants, Assoc.waiting, h]

theorem credits_of_not_live {st : AssocState} (h : st.isLive = false) : st.credits = false := by
  cases st <;> simp_all [AssocState.isLive, AssocState.credits]

/-- A slot whose association is neither served nor waiting keeps its record at the end of a claim. -/
theorem assocAt_finish_of_sated {c : Claim} {i : Slot} {a : Assoc} (h : c.st.assocAt i = some a) (hw : a.wants = 0)
    (hs : c.served ≠ some i) : c.finish.assocAt i = some a := by
  obtain he | he | ⟨j, b, hj, hb, he⟩ := finish_cases c
  · rw [he, h]
  · rw [he]
    exact assocAt_passLoop_of_sated (slotsAfter_nodup _) h hw _
  · have hij : i ≠ j := fun e => hs (e ▸ hj)
    have hother : (c.st.served j b).assocAt i = some a := by
      unfold State.served
      split
      · exact h
      · rw [assocAt_raiseGrant_of_ne _ _ _ _ hij, h]
    rw [he]
    exact assocAt_passLoop_of_sated (slotsAfter_nodup _) hother hw _

end FinishFields

/-- What an association waits for, as R95 words it. -/
theorem wants_eq (a : Assoc) : a.wants = if a.state.credits = true ∧ a.hold = false then
    a.params.inboundQuota - a.inboundQueue.length - a.grant else 0 := by
  have hw : a.waiting = true ↔ (a.state.credits = true ∧ a.hold = false) ∧ a.grant < a.target := by
    simp [Assoc.waiting]
  unfold Assoc.wants
  by_cases hc : a.state.credits = true ∧ a.hold = false
  · rw [if_pos hc]
    split
    · rfl
    · rename_i hn
      have : ¬ a.grant < a.target := fun hlt => hn (hw.2 ⟨hc, hlt⟩)
      unfold Assoc.target at this
      omega
  · rw [if_neg hc, if_neg fun h => hc (hw.1 h).1]

/-- Settles O56: the claim's end by its three cases, the pass by the shares of its slots. -/
theorem refreshPassSharesTheCredit : Obligations.RefreshPassSharesTheCredit := by
  refine ⟨fun c => ⟨fun hs => by simp [Claim.finish, hs], fun i a n hs ha hn => ?_⟩, fun s => ?_⟩
  · refine ⟨c.st.served i a, ?_, fun hz => ?_, fun hz => ?_⟩
    · rw [finish_of_served hs, servingPass_eq ha]
    · have hz' : min a.params.inboundQuota c.st.available = 0 := hn.symm.trans hz
      rw [State.served, if_pos hz']
    · have hn' : min a.params.inboundQuota c.st.available = n := hn.symm
      rw [State.served, hn', if_neg hz, State.raiseGrant, raised_eq]
  · have hnodup := slotsAfter_nodup s.pool.refreshPtr
    have hsorted := slotsAfter_sorted s.pool.refreshPtr
    obtain ⟨hslots, hres, hptr⟩ := passLoop_effects _ hnodup s.available s
    have hsum : (allSlots.map (s.shares (slotsAfter s.pool.refreshPtr) s.available)).sum =
        ((slotsAfter s.pool.refreshPtr).map (s.shares (slotsAfter s.pool.refreshPtr) s.available)).sum :=
      ((slotsAfter_perm _).symm.map _).sum_eq
    refine ⟨s.refreshPass, s.shares (slotsAfter s.pool.refreshPtr) s.available, rfl, refreshPass_frame s, fun i =>
      ⟨generation_passLoop _ _ _ i, fun h => ⟨?_, by rw [State.refreshPass, hslots, h]; rfl⟩⟩,
      fun i a w ha hw => ?_, ?_, ?_,
      fun hz => ?_, fun i hi hz => ?_⟩
    · have := shares_le_wantsAt s (slotsAfter s.pool.refreshPtr) i s.available
      simpa [State.wantsAt, h] using this
    · have hwants : s.wantsAt i = w := by rw [hw, ← wants_eq]; simp [State.wantsAt, ha]
      refine ⟨hwants ▸ shares_le_wantsAt s _ i _, ?_, fun hlt => ?_, fun hlt j hj => ?_⟩
      · rw [State.refreshPass, hslots, ha, Option.map_some, Assoc.given, raised_eq]
      · rw [hsum]
        exact sum_shares_of_short s hnodup (mem_slotsAfter _ i) _ (hwants ▸ hlt)
      · exact shares_behind_short s hsorted (fun x y h h' => absurd h (Nat.lt_asymm h')) (mem_slotsAfter _ i) hj _
          (hwants ▸ hlt)
    · rw [hsum]
      exact hres
    · rw [hsum]
      exact sum_shares_le s hnodup _
    · exact hptr.trans (lastRaised_of_zero (fun i _ => hz i) _)
    · exact hptr.trans (lastRaised_eq hsorted (mem_slotsAfter _ i) hi hz _)

end Sys2Proof.Machine
end

section
/-! Revisions of a record and of a line: the updates that keep what the laws look at, each shown to keep the tag positions in
order (R65, R85, R103, R108) or the line's parts fitting together (R141, R145, R161). -/

namespace Sys2Proof.Machine

/-! ### Tag distances -/

@[simp] theorem tagDistance_self (t : Tag) : tagDistance t t = 0 := by simp [tagDistance]

theorem tagDistance_lt (base t : Tag) : tagDistance base t < 256 := (t - base).isLt

theorem tagDistance_eq_zero_iff {base t : Tag} : tagDistance base t = 0 ↔ t = base := by
  unfold tagDistance
  constructor
  · intro h; bv_omega
  · rintro rfl; simp

theorem tagDistance_inj {base t u : Tag} (h : tagDistance base t = tagDistance base u) : t = u := by
  unfold tagDistance at h
  bv_omega

/-- One tag further on. -/
theorem tagDistance_succ {base t : Tag} (h : tagDistance base t < 255) :
    tagDistance base (t + 1) = tagDistance base t + 1 := by
  unfold tagDistance at *
  bv_omega

/-- Distances from a base moved forward to a tag at distance `d`. -/
theorem tagDistance_rebase {base next t : Tag} (h : tagDistance base next ≤ tagDistance base t) :
    tagDistance next t = tagDistance base t - tagDistance base next := by
  unfold tagDistance at *
  bv_omega

/-- A number of tags below 256 forward of a base. -/
theorem tagDistance_add_ofNat (base : Tag) {n : Nat} (h : n < 256) : tagDistance base (base + BitVec.ofNat 8 n) = n := by
  unfold tagDistance
  bv_omega

/-! ### Records in order -/

/-- The outbound part is in order and the inbound part within its quota. -/
def Assoc.InOrder (a : Assoc) : Prop := a.TagsOrdered ∧ a.quotaKept

/-- `b` is a revision of `a`: what the laws look at is the same, and the positions stay in order. -/
structure Assoc.Revises (a b : Assoc) : Prop where
  key : b.key = a.key
  live : b.state.isLive = a.state.isLive
  origin : b.origin = a.origin
  params : b.params = a.params
  grant : b.grant = a.grant
  reasons : b.reasons = a.reasons
  sendQueue : b.sendQueue = a.sendQueue
  inboundQueue : b.inboundQueue = a.inboundQueue
  ordered : a.state.isLive = true → a.InOrder → b.InOrder

/-- Timers, retry count, advertised limit, hold flag, pending control: none of them bears on the order of the positions. -/
def Assoc.Clerical (a b : Assoc) : Prop :=
  b = { a with retryCount := b.retryCount, advertised := b.advertised, hold := b.hold, stateTimer := b.stateTimer,
               receiptTimer := b.receiptTimer, pendingControl := b.pendingControl }

theorem TagsOrdered.congr {a b : Assoc} (h : a.TagsOrdered) (state : b.state = a.state) (params : b.params = a.params)
    (sendQueue : b.sendQueue = a.sendQueue) (sendBase : b.sendBase = a.sendBase) (nextToSend : b.nextToSend = a.nextToSend)
    (sentMark : b.sentMark = a.sentMark) (submitTag : b.submitTag = a.submitTag) (peerLimit : b.peerLimit = a.peerLimit) :
    b.TagsOrdered := by
  obtain ⟨h1, h2, h3, h4, h5, h6, h7, h8, h9, h10⟩ := h
  constructor
  all_goals
    simp only [state, params, sendQueue, sendBase, nextToSend, sentMark, submitTag, peerLimit]
    assumption

theorem quotaKept.congr {a b : Assoc} (h : a.quotaKept) (state : b.state = a.state) (params : b.params = a.params)
    (grant : b.grant = a.grant) (inboundQueue : b.inboundQueue = a.inboundQueue) : b.quotaKept := by
  unfold Assoc.quotaKept at *
  rwa [state, params, grant, inboundQueue]

theorem Assoc.Clerical.revises {a b : Assoc} (h : a.Clerical b) : a.Revises b := by
  rw [h]
  exact ⟨rfl, rfl, rfl, rfl, rfl, rfl, rfl, rfl, fun _ ho =>
    ⟨TagsOrdered.congr ho.1 rfl rfl rfl rfl rfl rfl rfl rfl, quotaKept.congr ho.2 rfl rfl rfl rfl⟩⟩

theorem Assoc.Revises.trans {a b c : Assoc} (hab : a.Revises b) (hbc : b.Revises c) : a.Revises c :=
  ⟨hbc.key.trans hab.key, hbc.live.trans hab.live, hbc.origin.trans hab.origin, hbc.params.trans hab.params,
    hbc.grant.trans hab.grant, hbc.reasons.trans hab.reasons, hbc.sendQueue.trans hab.sendQueue,
    hbc.inboundQueue.trans hab.inboundQueue, fun hl ho => hbc.ordered (hab.live.trans hl) (hab.ordered hl ho)⟩

/-! ### Clerical revisions -/

section Clerical

variable (a : Assoc)

theorem clerical_owe (k : ControlKind) : a.Clerical (a.owe k) := rfl

theorem clerical_oweIf (b : Bool) (k : ControlKind) : a.Clerical (a.oweIf b k) := by
  cases b <;> rfl

theorem clerical_duplicateOpen : a.Clerical a.duplicateOpen := by
  unfold Assoc.duplicateOpen Assoc.oweIf
  split <;> rfl

theorem clerical_settle (b : Bool) : a.Clerical (a.settle b) := by
  cases b <;> rfl

theorem clerical_controlBegun (k : ControlKind) : a.Clerical (a.controlBegun k) := by
  cases k with
  | openAccept =>
    unfold Assoc.controlBegun Assoc.oweIf
    dsimp only
    split <;> rfl
  | openRequest | close | receipt | probe => rfl

theorem clerical_frameDone (k : FrameKind) : a.Clerical (a.frameDone k) := by
  cases k with
  | openRequest | close | data | probe =>
    unfold Assoc.frameDone
    dsimp only
    split <;> rfl
  | openAccept | openRefuse | receipt | closeConfirm | disown => rfl

end Clerical

/-! ### Revisions of state and positions -/

section Positions

variable {a : Assoc}

/-- Going back to the base keeps the order (R79). -/
theorem revises_resend (a : Assoc) : a.Revises a.resend := by
  unfold Assoc.resend
  split
  · refine ⟨rfl, rfl, rfl, rfl, rfl, rfl, rfl, rfl, fun _ ⟨ht, hq⟩ => ⟨?_, quotaKept.congr hq rfl rfl rfl rfl⟩⟩
    exact { ht with
      next := by simp
      window := by simp }
  · split
    · exact (clerical_owe a .probe).revises
    · exact (show a.Clerical a from rfl).revises

theorem sends_of_opening (h : a.state = .opening) : a.state.sends = false := by rw [h]; rfl
theorem sends_of_offered (h : a.state = .offered) : a.state.sends = false := by rw [h]; rfl

/-- OPEN-ACCEPT moves OPENING to OPEN with no entry in its send queue (R46). -/
theorem revises_accepted (h : a.state = .opening) (limit : Nat) {credit : Nat} (hc : credit ≤ 15) :
    a.Revises (a.accepted limit credit) := by
  have hbase : a.Revises { a with
      outboundLimit := some limit, peerLimit := BitVec.ofNat 8 credit, sendBase := 0, nextToSend := 0, sentMark := 0,
      submitTag := 0, state := .opened, retryCount := 0, stateTimer := .stopped,
      pendingControl := a.pendingControl.drop .openRequest } := by
    refine ⟨rfl, by rw [h]; rfl, rfl, rfl, rfl, rfl, rfl, rfl, fun _ ⟨ht, hq⟩ => ⟨?_, ?_⟩⟩
    · have hempty := ht.empty (sends_of_opening h)
      have hpeer : tagDistance 0#8 (BitVec.ofNat 8 credit) = credit := by
        have := tagDistance_add_ofNat 0 (n := credit) (by omega)
        simpa using this
      constructor <;> simp [hempty, hpeer, hc]
    · refine ⟨fun _ => hq.1 (by rw [h]; rfl), fun hs => by simp at hs⟩
  exact hbase.trans (clerical_oweIf _ _ _).revises

/-- ACCEPT moves OFFERED to OPEN (R56). -/
theorem revises_acceptedOffer (h : a.state = .offered) : a.Revises a.acceptedOffer := by
  refine ⟨rfl, by rw [h]; rfl, rfl, rfl, rfl, rfl, rfl, rfl, fun _ ⟨ht, hq⟩ => ⟨?_, ?_⟩⟩
  · have hempty := ht.empty (sends_of_offered h)
    exact { ht with
      empty := fun _ => hempty
      draining := fun hd => by cases hd }
  · obtain ⟨hg, hi⟩ := hq.2 h
    exact ⟨fun _ => by simp [Assoc.acceptedOffer, Assoc.owe, hg, hi], fun hs => by cases hs⟩

/-- CLOSE moves OPEN to CLOSING with an empty send queue, else to DRAINING (R107). -/
theorem revises_closes (h : a.state = .opened) : a.Revises a.closes := by
  unfold Assoc.closes
  split
  · rename_i he
    rw [List.isEmpty_iff] at he
    refine ⟨rfl, by rw [h]; rfl, rfl, rfl, rfl, rfl, rfl, rfl, fun _ ⟨ht, hq⟩ => ⟨?_, ?_⟩⟩
    · exact { ht with
        empty := fun _ => he
        draining := fun hd => by cases hd }
    · exact ⟨fun _ => hq.1 (by rw [h]; rfl), fun hs => by cases hs⟩
  · rename_i he
    rw [List.isEmpty_iff] at he
    refine ⟨rfl, by rw [h]; rfl, rfl, rfl, rfl, rfl, rfl, rfl, fun _ ⟨ht, hq⟩ => ⟨?_, ?_⟩⟩
    · exact { ht with
        empty := fun hs => by cases hs
        draining := fun _ => he }
    · exact ⟨fun _ => hq.1 (by rw [h]; rfl), fun hs => by cases hs⟩

/-- The later of two tags lies at the greater distance. -/
theorem tagDistance_laterTag (base x y : Tag) :
    tagDistance base (laterTag base x y) = max (tagDistance base x) (tagDistance base y) := by
  unfold laterTag
  split <;> omega

/-- A RECEIPT of the base moves the peer limit forward, by 15 tags at most (R75, R78). -/
theorem revises_peerLimit {next : Tag} {credit : Nat} (hn : tagDistance a.sendBase next = 0) (hc : credit ≤ 15) :
    a.Revises { a with peerLimit := laterTag next a.peerLimit (next + BitVec.ofNat 8 credit) } := by
  obtain rfl := tagDistance_eq_zero_iff.1 hn
  refine ⟨rfl, rfl, rfl, rfl, rfl, rfl, rfl, rfl, fun _ ⟨ht, hq⟩ => ⟨?_, quotaKept.congr hq rfl rfl rfl rfl⟩⟩
  have hpeer := tagDistance_laterTag a.sendBase a.peerLimit (a.sendBase + BitVec.ofNat 8 credit)
  rw [tagDistance_add_ofNat a.sendBase (by omega)] at hpeer
  have h1 := ht.peer
  have h2 := ht.credit
  exact { ht with
    peer := by dsimp only; omega
    credit := by dsimp only; omega }

/-- A DATA frame begins at a sendable association: next-to-send moves on by one (R70). -/
theorem revises_dataBegun {s : State} (hs : s.sendable a = true) : a.Revises a.dataBegun := by
  simp only [State.sendable, Bool.and_eq_true, decide_eq_true_eq] at hs
  simp only [Assoc.hasUnsent, Assoc.unreceipted, decide_eq_true_eq] at hs
  obtain ⟨⟨⟨⟨⟨-, hunsent⟩, hwindow⟩, hcredit⟩, -⟩, -⟩ := hs
  refine ⟨rfl, rfl, rfl, rfl, rfl, rfl, rfl, rfl, fun _ ⟨ht, hq⟩ => ⟨?_, quotaKept.congr hq rfl rfl rfl rfl⟩⟩
  have hnext := ht.next
  have hsent := ht.sent
  have hpeer := ht.peer
  have hlimit := ht.credit
  have hne : tagDistance a.sendBase a.nextToSend ≠ tagDistance a.sendBase a.submitTag :=
    fun h => hunsent (tagDistance_inj h)
  have hsucc : tagDistance a.sendBase (a.nextToSend + 1) = tagDistance a.sendBase a.nextToSend + 1 :=
    tagDistance_succ (by omega)
  have hmark : tagDistance a.sendBase a.dataBegun.sentMark =
      max (tagDistance a.sendBase a.sentMark) (tagDistance a.sendBase a.nextToSend + 1) := by
    unfold Assoc.dataBegun
    dsimp only
    split <;> omega
  exact { ht with
    next := by
      change tagDistance a.sendBase (a.nextToSend + 1) ≤ tagDistance a.sendBase a.dataBegun.sentMark
      omega
    sent := by
      change tagDistance a.sendBase a.dataBegun.sentMark ≤ tagDistance a.sendBase a.submitTag
      omega
    peer := by
      change tagDistance a.sendBase a.dataBegun.sentMark ≤ tagDistance a.sendBase a.peerLimit
      omega
    window := by
      change tagDistance a.sendBase (a.nextToSend + 1) ≤ a.params.window
      omega }

end Positions

/-! ### Revisions of a line -/

/-- `q` is a revision of the line `r`: reasons and transmitter are the same, associations may stand on it as before, and its
parts fit together as before. -/
structure LineRecord.Revises (r q : LineRecord) : Prop where
  reasons : q.reasons = r.reasons
  tx : q.tx = r.tx
  opens : r.state.opens = true → q.state.opens = true
  consistent : r.Consistent → q.Consistent

/-- What the framer received, the tallies and the line grace bear on nothing else. -/
def LineRecord.Clerical (r q : LineRecord) : Prop :=
  q = { r with grace := q.grace, rx := q.rx, arrived := q.arrived, tallies := q.tallies }

theorem LineRecord.Clerical.revises {r q : LineRecord} (h : r.Clerical q) : r.Revises q := by
  rw [h]
  exact ⟨rfl, rfl, id, fun hc => { hc with }⟩

theorem clerical_popArrived (s : State) (l : Line) :
    (s.line l).Clerical { s.line l with arrived := (s.line l).arrived.tail } := rfl

theorem LineRecord.Clerical.trans {r q p : LineRecord} (hrq : r.Clerical q) (hqp : q.Clerical p) : r.Clerical p := by
  unfold LineRecord.Clerical at *
  rw [hqp, hrq]

theorem clerical_takeEvent (r : LineRecord) (e : RxEvent) : r.Clerical (r.takeEvent e) := by
  cases e <;> rfl

theorem clerical_takeEvents (events : List RxEvent) : ∀ r : LineRecord,
    r.Clerical (events.foldl LineRecord.takeEvent r) := by
  induction events with
  | nil => intro r; rfl
  | cons e rest ih => intro r; exact (clerical_takeEvent r e).trans (ih _)

theorem clerical_receive (r : LineRecord) (bits : List Bool) : r.Clerical (r.receive bits) := by
  unfold LineRecord.receive
  split
  · exact LineRecord.Clerical.trans (q := { r with rx := (r.rx.feed bits).1 }) rfl (clerical_takeEvents _ _)
  · rfl

/-- A reply handed to a queue that has room and does not hold it (R142). -/
theorem revises_reply {r : LineRecord} {x : Reply} (hx : x ∉ r.replies) (hroom : r.replies.length < 8) :
    r.Revises { r with replies := r.replies ++ [x] } := by
  refine ⟨rfl, rfl, id, fun hc => { hc with replies := ⟨by simpa using hroom, ?_⟩ }⟩
  exact List.nodup_append.2 ⟨hc.replies.2, List.nodup_singleton x, fun y hy z hz => by
    rw [List.mem_singleton] at hz
    exact fun h => hx (hz ▸ h ▸ hy)⟩

/-- The grace timer with its remaining ticks replaced, while it counts. -/
theorem revises_graceTimer {r : LineRecord} {n : Nat} (h : r.graceTimer = .counting n) (m : Nat) :
    r.Revises { r with graceTimer := .counting m } := by
  refine ⟨rfl, rfl, id, fun hc => { hc with grace := ?_ }⟩
  have := hc.grace
  rw [h] at this
  simpa using this

/-- The grace timer of a line that is not SUSPENDED stops. -/
theorem revises_graceStopped {r : LineRecord} (h : r.state ≠ .suspended) :
    r.Revises { r with graceTimer := .stopped } :=
  ⟨rfl, rfl, id, fun hc => { hc with grace := by simp [h] }⟩

/-- The carrier level of a line that is not ACTIVE. -/
theorem revises_carrier {r : LineRecord} (b : Bool) (h : r.state = .active → b = true) :
    r.Revises { r with carrier := b } :=
  ⟨rfl, rfl, id, fun hc => { hc with carrier := h }⟩

/-- Carrier return makes a line ACTIVE (R164). -/
theorem revises_resume (r : LineRecord) : r.Revises r.resume := by
  refine ⟨rfl, rfl, fun _ => rfl, fun hc => ⟨hc.replies, hc.burst, fun _ => rfl, ?_, fun _ => rfl⟩⟩
  simp [LineRecord.resume]

/-- An enable makes a DISABLED line ACTIVE or DOWN by its carrier level (R162). -/
theorem revises_enable {r : LineRecord} (h : r.state = .disabled) :
    r.Revises { r with state := if r.carrier then .active else .down, rx := .idle } := by
  refine ⟨rfl, rfl, fun ho => (by rw [h] at ho; cases ho), fun hc => ⟨hc.replies, hc.burst, fun ht => ?_, ?_, ?_⟩⟩
  · have := hc.sending ht
    rw [h] at this
    cases this
  · have hgrace := hc.grace
    rw [h] at hgrace
    have hstopped : r.graceTimer = .stopped := by simpa using hgrace
    cases r.carrier <;> simp [hstopped]
  · cases r.carrier <;> simp

end Sys2Proof.Machine
end

section
/-! Frames read and written (R31, R34): the kind fields, one kind at a time, then the header around them. -/

namespace Sys2Proof.Machine

/-- The kind fields are in the ranges of R31. -/
def FrameBody.InRange : FrameBody → Prop
  | .openRequest limit credit => 16 ≤ limit ∧ limit ≤ 240 ∧ credit ≤ 15
  | .openAccept limit credit => 16 ≤ limit ∧ limit ≤ 240 ∧ credit ≤ 15
  | .data _ payload => 1 ≤ payload.length
  | .receipt _ credit => credit ≤ 15
  | .openRefuse _ | .probe | .close _ | .closeConfirm | .disown => True

theorem Frame.inRange_iff (f : Frame) : f.inRange ↔
    1 ≤ f.station.toNat ∧ f.station.toNat ≤ 62 ∧ f.epoch ≠ 0 ∧ f.body.InRange := by
  obtain ⟨_, _, _, body⟩ := f
  cases body <;> exact Iff.rfl

theorem limitAndCredit_ofNat {limit credit : Nat} (hlo : 16 ≤ limit) (hhi : limit ≤ 240) (hc : credit ≤ 15) :
    limitAndCredit (BitVec.ofNat 8 limit) (BitVec.ofNat 8 credit) = some (limit, credit) := by
  have hl : limit % 256 = limit := by omega
  have hr : credit % 256 = credit := by omega
  simp [limitAndCredit, within, hl, hr, hlo, hhi, hc]

theorem limitAndCredit_eq_some {x y : Byte} {limit credit : Nat} (h : limitAndCredit x y = some (limit, credit)) :
    x = BitVec.ofNat 8 limit ∧ y = BitVec.ofNat 8 credit ∧ 16 ≤ limit ∧ limit ≤ 240 ∧ credit ≤ 15 := by
  unfold limitAndCredit at h
  split at h
  · rename_i hw
    simp only [within, Bool.and_eq_true, decide_eq_true_eq] at hw
    obtain ⟨⟨hlo, hhi⟩, -, hc⟩ := hw
    cases h
    exact ⟨by simp, by simp, hlo, hhi, hc⟩
  · cases h

theorem refuseOfCode_refuseCode (r : RefuseReason) : refuseOfCode (BitVec.ofNat 8 (refuseCode r)).toNat = some r := by
  cases r <;> rfl

theorem refuseOfCode_eq_some {v : Nat} {r : RefuseReason} (h : refuseOfCode v = some r) : v = refuseCode r := by
  unfold refuseOfCode at h
  split_ifs at h <;> cases h <;> assumption

/-- Kind fields in range are read back. -/
theorem parseBody_fields {body : FrameBody} (h : body.InRange) :
    parseBody (kindCode body.kind) body.fields = some body := by
  cases body with
  | openRequest limit credit =>
    obtain ⟨hlo, hhi, hc⟩ := h
    change (limitAndCredit _ _).map _ = _
    rw [limitAndCredit_ofNat hlo hhi hc]
    rfl
  | openAccept limit credit =>
    obtain ⟨hlo, hhi, hc⟩ := h
    change (limitAndCredit _ _).map _ = _
    rw [limitAndCredit_ofNat hlo hhi hc]
    rfl
  | openRefuse reason =>
    change (refuseOfCode _).map _ = _
    rw [refuseOfCode_refuseCode]
    rfl
  | data tag payload =>
    cases payload with
    | nil => exact absurd h (by simp [FrameBody.InRange])
    | cons x rest => rfl
  | receipt next credit =>
    have hc : credit ≤ 15 := h
    have hr : credit % 256 = credit := by omega
    change (if within 0 15 (BitVec.ofNat 8 credit).toNat then some _ else none) = _
    simp [within, hr, hc]
  | probe | close finalTag | closeConfirm | disown => rfl

/-- The kind fields that are read are in range, and are those of the body read. -/
theorem parseBody_eq_some {kind : Byte} {rest : List Byte} {body : FrameBody} (h : parseBody kind rest = some body) :
    kind = kindCode body.kind ∧ rest = body.fields ∧ body.InRange := by
  by_cases hk : kind ∈ kindCodes
  case neg => rw [parseBody_eq_none_of_unknown hk] at h; cases h
  simp only [kindCodes, List.mem_cons, List.not_mem_nil, or_false] at hk
  obtain rfl | rfl | rfl | rfl | rfl | rfl | rfl | rfl | rfl := hk
  case inl | inr.inl =>
    match rest, h with
    | [limit, credit], h =>
      obtain ⟨⟨_, _⟩, hlc, rfl⟩ := Option.map_eq_some_iff.1 h
      obtain ⟨hx, hy, hr⟩ := limitAndCredit_eq_some hlc
      exact ⟨rfl, by rw [hx, hy]; rfl, hr⟩
  case inr.inr.inl =>
    match rest, h with
    | [reason], h =>
      obtain ⟨r, hr, rfl⟩ := Option.map_eq_some_iff.1 h
      refine ⟨rfl, ?_, trivial⟩
      rw [FrameBody.fields, ← refuseOfCode_eq_some hr]
      simp
  case inr.inr.inr.inl =>
    match rest, h with
    | tag :: x :: payload, h =>
      cases h
      exact ⟨rfl, rfl, Nat.succ_le_succ (Nat.zero_le _)⟩
  case inr.inr.inr.inr.inl =>
    match rest, h with
    | [next, credit], h =>
      have hif : (if within 0 15 credit.toNat then some (FrameBody.receipt next credit.toNat) else none) = some body := h
      split at hif
      · rename_i hw
        cases hif
        simp only [within, Bool.and_eq_true, decide_eq_true_eq] at hw
        exact ⟨rfl, by simp [FrameBody.fields], hw.2⟩
      · cases hif
  case inr.inr.inr.inr.inr.inr.inl =>
    match rest, h with
    | [finalTag], h => cases h; exact ⟨rfl, rfl, trivial⟩
  all_goals
    match rest, h with
    | [], h => cases h; exact ⟨rfl, rfl, trivial⟩

/-- What is read has its fields in range, and its bytes are the frame's, but for the destination. -/
theorem parseFrame_eq_some {xs : List Byte} {f : Frame} (h : parseFrame xs = some f) :
    f.inRange ∧ ∃ d, xs = frameBytes d (f.station.setWidth 8) f := by
  unfold parseFrame at h
  split at h
  · rename_i d src kind an epoch fields
    split at h
    · rename_i hw
      obtain ⟨body, hbody, rfl⟩ := Option.map_eq_some_iff.1 h
      obtain ⟨hkind, hfields, hrange⟩ := parseBody_eq_some hbody
      simp only [within, Bool.and_eq_true, decide_eq_true_eq, ne_eq] at hw
      obtain ⟨⟨⟨hlo, hhi⟩, -, han⟩, hepoch⟩ := hw
      have hstation : (src.setWidth 6).toNat = src.toNat := by
        rw [BitVec.toNat_setWidth]
        omega
      refine ⟨(Frame.inRange_iff _).2 ⟨by rw [hstation]; exact hlo, by rw [hstation]; exact hhi, hepoch, hrange⟩, d, ?_⟩
      have hsrc : (src.setWidth 6).setWidth 8 = src := by
        apply BitVec.eq_of_toNat_eq
        rw [BitVec.toNat_setWidth, hstation]
        omega
      have hno : (an.setWidth 4).setWidth 8 = an := by
        apply BitVec.eq_of_toNat_eq
        rw [BitVec.toNat_setWidth, BitVec.toNat_setWidth]
        omega
      simp only [frameBytes, hsrc, hno, ← hkind, ← hfields]
    · cases h
  · cases h

/-- A station's frame with its fields in range is read back. -/
theorem parseFrame_stationBytes {f : Frame} (h : f.inRange) : parseFrame (stationBytes f) = some f := by
  obtain ⟨hlo, hhi, hepoch, hrange⟩ := (Frame.inRange_iff f).1 h
  have hstation : (f.station.setWidth 8).toNat = f.station.toNat := by
    rw [BitVec.toNat_setWidth]
    omega
  have han : (f.an.setWidth 8).toNat = f.an.toNat := by
    rw [BitVec.toNat_setWidth]
    omega
  have hno := f.an.isLt
  have hheader : (within 1 62 (f.station.setWidth 8).toNat && within 0 15 (f.an.setWidth 8).toNat && f.epoch ≠ 0) =
      true := by
    simp only [within, hstation, han, Bool.and_eq_true, decide_eq_true_eq]
    exact ⟨⟨⟨hlo, hhi⟩, Nat.zero_le _, by omega⟩, hepoch⟩
  rw [stationBytes, frameBytes, parseFrame, if_pos hheader, parseBody_fields hrange]
  simp

/-- Settles O20: reading a station's bytes back, and what any bytes that are read say. -/
theorem frameFieldsSurviveTheWire : Obligations.FrameFieldsSurviveTheWire :=
  ⟨fun _ h => parseFrame_stationBytes h, fun _ _ h => parseFrame_eq_some h⟩

end Sys2Proof.Machine
end

section
/-! The register map (R188): which words the buffer window takes up. -/

namespace Sys2Proof.Machine

/-- A line's block holds no word of the buffer window. -/
theorem lineReg_ne_window (l : Line) (n : Nat) (k : Fin 60) : lineReg l n ≠ some (.window k) := by
  match n with
  | 0 | 1 | 2 | 3 | 4 | 5 | 6 | 7 | 8 | 9 | _ + 10 => nofun

/-- The words outside the buffer window hold none of its registers. -/
theorem regAt_ne_window {word : BitVec 10} (h : ¬ (64 ≤ word.toNat ∧ word.toNat < 124)) (k : Fin 60) :
    regAt word ≠ some (.window k) := by
  have ite_ne {c : Prop} [Decidable c] {x y : Option Reg} (hx : x ≠ some (.window k)) (hy : y ≠ some (.window k)) :
      (if c then x else y) ≠ some (.window k) := by
    split <;> assumption
  have dite_ne {c : Prop} [Decidable c] {x : c → Option Reg} {y : Option Reg} (hx : ∀ p, x p ≠ some (.window k))
      (hy : y ≠ some (.window k)) : (if p : c then x p else y) ≠ some (.window k) := by
    split <;> solve_by_elim
  unfold regAt
  refine dite_ne (fun _ => nofun) (dite_ne (fun _ => nofun) ?_)
  rw [dif_neg h]
  refine ite_ne (lineReg_ne_window _ _ k) (ite_ne (lineReg_ne_window _ _ k) ?_)
  repeat' apply ite_ne
  all_goals nofun

/-- The words of the buffer window. -/
theorem regAt_eq_window {word : BitVec 10} (h : 64 ≤ word.toNat ∧ word.toNat < 124) :
    regAt word = some (.window ⟨word.toNat - 64, by omega⟩) := by
  have h1 : ¬ (12 ≤ word.toNat ∧ word.toNat < 18) := by omega
  have h2 : ¬ (20 ≤ word.toNat ∧ word.toNat < 24) := by omega
  unfold regAt
  dsimp only
  rw [dif_neg h1, dif_neg h2, dif_pos h]

end Sys2Proof.Machine
end

section
/-! What the commands meet on their way: the choice of a frame, operands in range, creation, admission, expected data. -/

namespace Sys2Proof.Machine

/-- Admission through listen entry `n` into slot `i`, before its reason is raised (R52). -/
def State.admitted (s : State) (l : Line) (f : Frame) (limit credit : Nat) (n : ListenNo) (i : Slot) : State :=
  (s.create i (admittedAssoc l f limit credit n (s.listenAt n))).setListen n
    { s.listenAt n with admitted := (s.listenAt n).admitted + 1 }

/-- The key that a frame on a line names (R18). -/
def Frame.key (f : Frame) (l : Line) : Key := { line := l, station := f.station, an := f.an }

/-- A record with credit that has got none yet and holds no message, so that any raise up to its quota fits (R134). -/
def Assoc.Untouched (a : Assoc) : Prop := a.state.credits = true ∧ a.grant = 0 ∧ a.inboundQueue = []

@[simp] theorem line_recordDone (s : State) (r : TxRecord) (l : Line) : (s.recordDone r).line l = s.line l := by
  unfold State.recordDone
  split
  · rfl
  · split
    · rfl
    · split <;> simp

@[simp] theorem served_retire (c : Claim) (b : Option BufferNo) : (c.retire b).served = c.served := by
  unfold Claim.retire
  split
  · rfl
  · split <;> rfl

@[simp] theorem mayBegin_setAssoc (s : State) (i : Slot) (a : Assoc) (l : Line) :
    (s.setAssoc i a).mayBegin l = s.mayBegin l := by
  cases l <;> rfl

theorem bumpBurst_le {n : Nat} (hn : n ≤ 4) : bumpBurst n ≤ 4 := by
  unfold bumpBurst Config.burstLimit
  split <;> omega

/-- What the choice of a frame names: the head reply, or an association of the line with a control frame or an entry to send. -/
theorem choose_cases {s : State} {l : Line} {x : Choice} (hx : s.choose l = some x) :
    (∃ r rest, x = .reply r rest ∧ (s.line l).replies = r :: rest) ∨
    (∃ i a k, x = .control i a k ∧ s.assocAt i = some a ∧ a.key.line = l) ∨
    (∃ i a e, x = .data i a e ∧ s.assocAt i = some a ∧ a.key.line = l ∧ s.sendable a = true ∧ e ∈ a.sendQueue) := by
  have hreply (hr : s.replyTurn l = some x) : ∃ r rest, x = .reply r rest ∧ (s.line l).replies = r :: rest := by
    unfold State.replyTurn at hr
    split at hr
    · cases hr
    · cases hr
      exact ⟨_, _, rfl, ‹_›⟩
  have hcontrol (hr : s.controlTurn l = some x) :
      ∃ i a k, x = .control i a k ∧ s.assocAt i = some a ∧ a.key.line = l := by
    obtain ⟨i, -, hi⟩ := List.exists_of_findSome?_eq_some hr
    unfold State.controlAt at hi
    split at hi
    · cases hi
    · split at hi
      · obtain ⟨k, -, rfl⟩ := Option.map_eq_some_iff.1 hi
        exact ⟨i, _, k, rfl, ‹_›, ‹_›⟩
      · cases hi
  have hdata (hr : s.dataTurn l = some x) : ∃ i a e, x = .data i a e ∧ s.assocAt i = some a ∧ a.key.line = l ∧
      s.sendable a = true ∧ e ∈ a.sendQueue := by
    obtain ⟨i, -, hi⟩ := List.exists_of_findSome?_eq_some hr
    unfold State.dataAt at hi
    split at hi
    · cases hi
    · split at hi
      · rename_i hc
        obtain ⟨e, he, rfl⟩ := Option.map_eq_some_iff.1 hi
        simp only [Bool.and_eq_true, decide_eq_true_eq] at hc
        exact ⟨i, _, e, rfl, ‹_›, hc.1, hc.2, List.mem_of_find?_eq_some he⟩
      · cases hi
  unfold State.choose at hx
  simp only [Option.orElse_eq_orElse, Option.orElse_eq_or, Option.or_eq_some_iff] at hx
  rcases hx with hd | ⟨-, hr | ⟨-, hc | ⟨-, hd⟩⟩⟩
  · split at hd
    · exact .inr (.inr (hdata hd))
    · cases hd
  · exact .inl (hreply hr)
  · exact .inr (.inl (hcontrol hc))
  · exact .inr (.inr (hdata hd))

theorem freeSlot_eq_some {s : State} {i : Slot} (hi : s.freeSlot = some i) : s.assocAt i = none := by
  have := List.find?_some hi
  simpa using this

/-- OPEN's parameters are in range when they are taken. -/
theorem inRange_of_openOperands {p : Vector Word 6} {k : Key} {ps : Params} (hp : openOperands p = some (k, ps)) :
    ps.inRange = true := by
  unfold openOperands at hp
  dsimp only at hp
  split at hp
  · cases hp
  · split at hp
    · rename_i hw
      simp only [Bool.and_eq_true] at hw
      cases hp
      exact hw.2
    · cases hp

theorem inRange_of_listenOperands {p : Vector Word 6} {n : ListenNo} {e : ListenEntry}
    (hp : listenOperands p = some (n, e)) : e.params.inRange = true := by
  unfold listenOperands at hp
  dsimp only at hp
  split at hp
  · split at hp
    · rename_i hw
      simp only [Bool.and_eq_true] at hw
      cases hp
      exact hw.1.2
    · cases hp
  · cases hp

@[simp] theorem assocAt_create_self (s : State) (i : Slot) (a : Assoc) : (s.create i a).assocAt i = some a := by
  simp only [State.create]
  exact assocAt_setSlotRec_self s i _

@[simp] theorem served_abort (c : Claim) (i : Slot) (a : Assoc) : (c.abort i a).served = c.served := by
  simp [Claim.abort]

theorem admittedAssoc_untouched (l : Line) (f : Frame) (limit credit : Nat) (n : ListenNo) {e : ListenEntry}
    (he : e.mode = .auto) : (admittedAssoc l f limit credit n e).Untouched := by
  unfold admittedAssoc
  rw [he]
  exact ⟨rfl, rfl, rfl⟩

@[simp] theorem assocAt_admitted_self (s : State) (l : Line) (f : Frame) (limit credit : Nat) (n : ListenNo) (i : Slot) :
    (s.admitted l f limit credit n i).assocAt i = some (admittedAssoc l f limit credit n (s.listenAt n)) := by
  simp [State.admitted]

theorem Assoc.Untouched.reasons {a : Assoc} (r : SlotReasons) (ha : a.Untouched) : ({ a with reasons := r }).Untouched := ha

/-- What listen admission can do: refuse with a reply, or admission into a FREE slot. -/
theorem listenAdmission_cases (c : Claim) (l : Line) (f : Frame) (limit credit : Nat) :
    (∃ r, c.listenAdmission l f limit credit = c.reply l r) ∨
    ∃ n i, c.st.assocAt i = none ∧ c.listenAdmission l f limit credit = c.admitThrough l f limit credit n i := by
  unfold Claim.listenAdmission
  split
  · exact .inl ⟨_, rfl⟩
  · split
    · exact .inl ⟨_, rfl⟩
    · split
      · exact .inl ⟨_, rfl⟩
      · exact .inr ⟨_, _, freeSlot_eq_some ‹_›, rfl⟩

/-- A tag is of the expected class exactly when it is E and there is credit. -/
theorem dataClass_eq_expected {d g : Nat} (hd : dataClass d g = .expected) : d = 0 ∧ 0 < g := by
  unfold dataClass at hd
  split_ifs at hd
  assumption

end Sys2Proof.Machine
end

section
/-! Laws: predicates that the shared operations keep. A law is given by what it asks of each operation; the walk through the
commands, from the operations up to a step, is made here once for every law. -/

namespace Sys2Proof.Machine

/-! ### What a law asks -/

/-- `P` is kept by each operation of the part at whose end the spec's laws hold again. Apart are the operations inside which a
law may fail for a while (`Law`) and those that write buffer bytes (`WriteLaw`). -/
structure CoreLaw (P : State → Prop) : Prop where
  /-- The blocks that no law looks at. -/
  frame : ∀ {s : State} (d : Word) (tb : Timebase) (mb : Mailbox) (fl : FaultFlags), P s →
    P { s with dataOut := d, timebase := tb, mailbox := mb, flags := fl }
  settings : ∀ {s : State} (x : Option BufferNo) (n : Nat) (p : Slot), P s →
    P (s.setPool { s.pool with select := x, hostFloor := n, refreshPtr := p })
  attend : ∀ {s : State} (t : Attention), P s → t.list = s.attention.list →
    (s.attention.holdoffTimer = .stopped → t.holdoffTimer = .stopped ∧ t.indicator = s.attention.indicator) →
    P (s.setAttention t)
  takeNotice : ∀ {s : State}, P s → P s.takeNotice
  control : ∀ {s : State} (ct : ControllerState), P s → (ct = .stopped → s.bothIdle = true) → P { s with controller := ct }
  revise : ∀ {s : State} {i : Slot} {a b : Assoc}, P s → s.assocAt i = some a → a.Revises b → P (s.setAssoc i b)
  reviseLine : ∀ {s : State} {l : Line} {q : LineRecord}, P s → (s.line l).Revises q → P (s.setLine l q)
  raiseSlot : ∀ {s : State} {i : Slot} {a : Assoc} (r : SlotReason), P s → s.assocAt i = some a → P (s.raiseSlot i r)
  raiseLine : ∀ {s : State} (l : Line) (r : LineReason), P s → P (s.raiseLine l r)
  raiseGrant : ∀ {s : State} {i : Slot} {a : Assoc} {n : Nat}, P s → s.assocAt i = some a → a.state.credits = true →
    n ≤ s.available → a.inboundQueue.length + a.grant + n ≤ a.params.inboundQuota → P (s.raiseGrant i a n)
  endAssoc : ∀ {c : Claim} {i : Slot} {a : Assoc} (cause : EndCause), P c.st → c.st.assocAt i = some a →
    a.state.isLive = true → P (c.endAssoc i cause).st
  opening : ∀ {s : State} {i : Slot} {k : Key} {p : Params}, P s → (s.line k.line).state.opens = true →
    s.lookup k = none → s.assocAt i = none → p.inRange = true → P (s.create i (s.opensAssoc i k p))
  admission : ∀ {s : State} {l : Line} {f : Frame} {limit credit : Nat} {n : ListenNo} {i : Slot}, P s →
    (s.line l).state = .active → (∀ j, s.lookup (f.key l) = some j → s.assocAt j = none) → s.assocAt i = none →
    credit ≤ 15 →
    P (s.admitted l f limit credit n i)
  submit : ∀ {s : State} {i : Slot} {a : Assoc} {b : BufferNo} (n : Nat), P s → s.assocAt i = some a →
    a.state = .opened → s.bufferStateAt b = .host → a.sendQueue.length < a.params.sendQueueLimit →
    P ((s.setPool (s.pool.setState b .outbound)).setAssoc i (a.submitted b n))
  takeMessage : ∀ {s : State} {i : Slot} {a : Assoc} {e : InboundEntry} {rest : List InboundEntry}, P s →
    s.assocAt i = some a → a.inboundQueue = e :: rest →
    P ((s.setAssoc i { a with inboundQueue := rest }).setPool (s.pool.setState e.buffer .host))
  allocate : ∀ {s : State} {b : BufferNo} {rest : List BufferNo}, P s → s.pool.freeList = b :: rest →
    s.pool.reserved < s.pool.freeList.length → P (s.setPool { s.pool.setState b .host with freeList := rest })
  giveBuffer : ∀ {s : State} {b : BufferNo}, P s → s.bufferStateAt b = .host →
    P (s.setPool { s.pool.setState b .free with freeList := s.pool.freeList ++ [b] })
  release : ∀ {c : Claim} {i : Slot} {a : Assoc}, P c.st → c.st.assocAt i = some a → a.state.isLive = false →
    P (c.release i a).st
  receipted : ∀ {c : Claim} {i : Slot} {a : Assoc} {next : Tag} {credit : Nat}, P c.st → c.st.assocAt i = some a →
    a.state.sends = true → tagDistance a.sendBase next ≤ tagDistance a.sendBase a.sentMark → credit ≤ 15 →
    P ((Claim.releaseAll a.key.line (a.sendQueue.take (tagDistance a.sendBase next)) c).st.setAssoc i
      (a.receipted next credit))
  send : ∀ {s : State} {l : Line} {f : Frame} {src : TxSource} {buffer : Option BufferNo} {replies : List Reply}
    {burst : Nat} (cp dp : Slot), P s → s.mayBegin l = true → replies.Sublist (s.line l).replies →
    ((s.line l).burst ≤ 4 → burst ≤ 4) → (∀ x, buffer = some x → ∃ i a, s.assocAt i = some a ∧ a.key.line = l ∧
      x ∈ a.sendQueue.map (·.buffer)) →
    P (s.setLine l (({ s.line l with replies := replies, burst := burst, controlPtr := cp, dataPtr := dp }).sends f src
      buffer))
  frameEnd : ∀ {s : State} {l : Line} {r : TxRecord} (out : TxOutput), P s → (s.line l).tx = .sending r →
    P (((Claim.begin s).retire r.buffer).update fun t => t.setLine l { t.line l with tx := .idle, txOut := out }).st
  listenSet : ∀ {s : State} {n : ListenNo} (e : ListenEntry), P s → e.params.inRange = true →
    P (s.setListen n { e with admitted := (s.listenAt n).admitted })
  clearAll : ∀ {s : State}, P s → s.controller = .stopped → P s.clearAll

/-- `P` is a law: it is kept too by the operations inside which one of the spec's laws fails for a while. -/
structure Law (P : State → Prop) : Prop extends CoreLaw P where
  /-- Admission after the remote restart that ended the key's old association (R62). -/
  restart : ∀ {c : Claim} {l : Line} {f : Frame} {limit credit : Nat} {n : ListenNo} {i j : Slot} {a : Assoc}, P c.st →
    c.st.lookup (f.key l) = some j → c.st.assocAt j = some a → (c.st.line l).state = .active →
    (c.endAssoc j .remoteReset).st.assocAt i = none → credit ≤ 15 →
    P ((c.endAssoc j .remoteReset).st.admitted l f limit credit n i)
  /-- ACCEPT, with the raise that serves the association first (R56, R134). -/
  accept : ∀ {s : State} {i : Slot} {a : Assoc}, P s → s.assocAt i = some a → a.state = .offered →
    P (((s.setAssoc i a.acceptedOffer).raiseSlot i .opened).servingPass i)
  carrierLoss : ∀ {s : State} {l : Line}, P s → (s.line l).state = .active →
    P (((s.setLine l (s.line l).suspend).raiseLine l .suspended).cutFrame l)
  goDown : ∀ {s : State} {l : Line}, P s → (s.line l).state = .suspended → P (s.goDown l)
  disableLine : ∀ {s : State} {l : Line}, P s → (s.line l).state ≠ .disabled → P (s.disableLine l)

/-- What a law asks of the operations that write buffer bytes: device reset, acceptance, host write (R137). -/
structure WriteLaw (P : State → Prop) : Prop where
  deviceReset : ∀ {s : State} (b : Bool), P s → P (s.deviceReset b)
  acceptData : ∀ {s : State} {i : Slot} {a : Assoc} {payload : List Byte} {b : BufferNo} {rest : List BufferNo}, P s →
    s.assocAt i = some a → a.state.receives = true → 0 < a.grant → payload.length ≤ a.params.inboundLimit →
    s.pool.freeList = b :: rest →
    P ((s.setPool { s.pool.setState b .inbound with
      freeList := rest, reserved := s.pool.reserved - 1,
      memory := Memory.writeBytes s.pool.memory (Memory.cell b 0) payload }).setAssoc i (a.acceptedData b payload.length))
  writeWindow : ∀ {s : State} (b : BufferNo) (k : Fin 60) (lanes : BitVec 4) (data : Word), P s →
    P (s.setPool { s.pool with memory := writeLanes s.pool.memory b k.val lanes data })

/-- A claim whose state has the law, and whose first served association has room for its raise. -/
structure Claim.Good (P : State → Prop) (c : Claim) : Prop where
  st : P c.st
  served : ∀ i a, c.served = some i → c.st.assocAt i = some a → a.Untouched

theorem Claim.Good.of_plain {P : State → Prop} {c : Claim} (hs : P c.st) (hn : c.served = none) : Claim.Good P c :=
  ⟨hs, fun i a hi _ => by rw [hn] at hi; cases hi⟩

namespace CoreLaw

variable {P : State → Prop} (h : CoreLaw P)

include h

/-! ### Passes and claims -/

theorem refreshPtr {s : State} (p : Slot) (hs : P s) : P (s.setPool { s.pool with refreshPtr := p }) :=
  h.settings s.pool.select s.pool.hostFloor p hs

theorem passLoop (slots : List Slot) : ∀ {n : Nat} {s : State}, P s → n ≤ s.available → P (passLoop slots n s) := by
  induction slots with
  | nil => intro n s hs _; exact hs
  | cons i rest ih =>
    intro n s hs hn
    rw [Machine.passLoop]
    split
    · exact ih hs hn
    · rename_i a ha
      dsimp only
      split
      · exact ih hs hn
      · rename_i hm
        have hw := wants_eq a
        have hcredits : a.state.credits = true := by
          cases hc : a.state.credits with
          | true => rfl
          | false => exact absurd (by rw [wants_of_not_credits hc, Nat.zero_min]) hm
        have hfit : a.inboundQueue.length + a.grant + min a.wants n ≤ a.params.inboundQuota := by
          have hle : min a.wants n ≤ a.wants := Nat.min_le_left _ _
          generalize min a.wants n = m at *
          rw [hw] at hle
          split at hle <;> omega
        refine ih (h.refreshPtr i (h.raiseGrant hs ha hcredits (by omega) hfit)) ?_
        simp only [State.available, setPool_pool, pool_raiseGrant] at hn ⊢
        omega

theorem refreshPass {s : State} (hs : P s) : P s.refreshPass := h.passLoop _ hs (le_refl _)

theorem servingPass {s : State} {i : Slot} (hs : P s) (hu : ∀ a, s.assocAt i = some a → a.Untouched) :
    P (s.servingPass i) := by
  cases ha : s.assocAt i with
  | none =>
    rw [State.servingPass, ha]
    exact h.refreshPass hs
  | some a =>
    obtain ⟨hc, hg, hq⟩ := hu a ha
    rw [servingPass_eq ha]
    refine h.refreshPass ?_
    unfold State.served
    split
    · exact hs
    · refine h.raiseGrant hs ha hc (Nat.min_le_right _ _) ?_
      rw [hg, hq]
      simp

theorem finish {c : Claim} (hc : Claim.Good P c) : P c.finish := by
  unfold Claim.finish
  split
  · rename_i i hi
    exact h.servingPass hc.st fun a ha => hc.served i a hi ha
  · split
    · exact h.refreshPass hc.st
    · exact hc.st

theorem finishPlain {c : Claim} (hs : P c.st) (hn : c.served = none) : P c.finish := h.finish (.of_plain hs hn)

/-- Entry to ENDED, whatever the slot holds. -/
theorem anyEnd {c : Claim} (i : Slot) (cause : EndCause) (hs : P c.st) : P (c.endAssoc i cause).st := by
  obtain he | ⟨a, ha, hl, -⟩ := endAssoc_cases c i cause
  · rwa [he]
  · exact h.endAssoc cause hs ha hl

/-! ### Replies -/

theorem clericalLine {s : State} {l : Line} {q : LineRecord} (hs : P s) (hq : (s.line l).Clerical q) :
    P (s.setLine l q) := h.reviseLine hs hq.revises

theorem bumpTally {s : State} (l : Line) (k : TallyKind) (hs : P s) : P (s.bumpTally l k) := h.clericalLine hs rfl

theorem handReply {s : State} (l : Line) (r : Reply) (hs : P s) : P (s.handReply l r) := by
  unfold State.handReply
  split
  · exact hs
  · rename_i hnew
    split
    · exact h.bumpTally l _ hs
    · rename_i hroom
      exact h.reviseLine hs (revises_reply (by simpa using hnew) (by simpa [Config.replyQueueDepth] using hroom))

/-- A clerical revision of a record. -/
theorem clerical {s : State} {i : Slot} {a b : Assoc} (hs : P s) (ha : s.assocAt i = some a) (hb : a.Clerical b) :
    P (s.setAssoc i b) := h.revise hs ha hb.revises

/-! ### The end of a frame -/

theorem settleStop {s : State} (hs : P s) : P s.settleStop := by
  unfold State.settleStop
  split
  · rename_i hidle
    exact h.control _ hs fun _ => (Bool.and_eq_true _ _ ▸ hidle).2
  · exact hs

theorem recordDone {s : State} (r : TxRecord) (hs : P s) : P (s.recordDone r) := by
  unfold State.recordDone
  split
  · exact hs
  · split
    · exact hs
    · split
      · exact h.clerical hs ‹_› (clerical_frameDone _ _)
      · exact hs

theorem endFrame {s : State} (l : Line) (out : TxOutput) (hs : P s) : P (s.endFrame l out) := by
  unfold State.endFrame
  split
  · exact hs
  · rename_i r hr
    refine h.settleStop (h.finishPlain (h.frameEnd out (h.recordDone r hs) (by simpa using hr)) ?_)
    simp

end CoreLaw

namespace Law

variable {P : State → Prop} (h : Law P)

include h

/-! ### Timers -/

theorem bumpRetry {s : State} {i : Slot} {a : Assoc} {go : Assoc → Assoc} (hs : P s) (ha : s.assocAt i = some a)
    (hgo : ∀ b : Assoc, b.Revises (go b)) : P (s.bumpRetry i a go) := by
  have hclerk : a.Clerical { a with retryCount := a.retryCount + 1, stateTimer := .stopped } := rfl
  unfold State.bumpRetry
  dsimp only
  split
  · exact h.finishPlain (h.anyEnd _ _ (h.clerical hs ha hclerk)) (served_endAssoc _ _ _)
  · exact h.revise hs ha (hclerk.revises.trans (hgo _))

theorem offerExpires {s : State} {i : Slot} (a : Assoc) (hs : P s) : P (s.offerExpires i a) :=
  h.finishPlain (h.anyEnd _ _ (h.handReply _ _ hs)) (served_endAssoc _ _ _)

theorem stateExpires {s : State} {i : Slot} {a : Assoc} (hs : P s) (ha : s.assocAt i = some a) :
    P (s.stateExpires i a) := by
  unfold State.stateExpires
  split
  · exact h.bumpRetry hs ha fun b => (clerical_owe b .openRequest).revises
  · exact h.offerExpires a hs
  · exact h.bumpRetry hs ha revises_resend
  · exact h.bumpRetry hs ha revises_resend
  · exact h.bumpRetry hs ha fun b => (clerical_owe b .close).revises
  · exact h.clerical hs ha rfl

theorem receiptExpires {s : State} {i : Slot} {a : Assoc} (hs : P s) (ha : s.assocAt i = some a) :
    P (s.receiptExpires i a) := by
  have hstop : a.Clerical { a with receiptTimer := .stopped } := rfl
  exact h.revise hs ha (hstop.revises.trans (clerical_oweIf _ _ _).revises)

theorem graceExpires {s : State} (l : Line) (hs : P s) : P (s.graceExpires l) := by
  unfold State.graceExpires
  split
  · rename_i hsus
    exact h.goDown hs hsus
  · rename_i hsus
    exact h.reviseLine hs (revises_graceStopped hsus)

/-- The expiry of a timer that counts. -/
theorem expire {s : State} {x : TimerName} {n : Nat} (hs : P s) (hx : s.timerAt x = .counting n) : P (s.expire x) := by
  unfold State.expire
  split
  · split
    · exact hs
    · exact h.stateExpires hs ‹_›
  · split
    · exact hs
    · exact h.receiptExpires hs ‹_›
  · exact h.graceExpires _ hs
  · refine h.attend _ hs rfl fun hstop => ?_
    rw [State.timerAt, hstop] at hx
    cases hx

theorem setTimer {s : State} {x : TimerName} {n : Nat} (m : Nat) (hs : P s) (hx : s.timerAt x = .counting n) :
    P (s.setTimer (.counting m) x) := by
  unfold State.setTimer
  split
  · split
    · exact hs
    · exact h.clerical hs ‹_› rfl
  · split
    · exact hs
    · exact h.clerical hs ‹_› rfl
  · exact h.reviseLine hs (revises_graceTimer hx m)
  · refine h.attend _ hs rfl fun hstop => ?_
    rw [State.timerAt, hstop] at hx
    cases hx

theorem reach {s : State} (x : TimerName) (hs : P s) : P (s.reach x) := by
  obtain ⟨-, he⟩ | ⟨n, hx, -, ⟨-, he⟩ | ⟨-, he⟩⟩ := reach_cases s x
  · rwa [he]
  · rw [he]
    exact h.setTimer _ hs hx
  · rw [he]
    exact h.expire hs hx

theorem timebase {s : State} (tb : Timebase) (hs : P s) : P { s with timebase := tb } :=
  h.frame s.dataOut tb s.mailbox s.flags hs

theorem tickAt {s : State} (x : TimerName) (hs : P s) : P (s.tickAt x) := by
  unfold State.tickAt
  split
  · exact h.reach x (h.timebase _ hs)
  · exact hs

theorem tickFold (xs : List TimerName) : ∀ {s : State}, P s → P (xs.foldl State.tickAt s) := by
  induction xs with
  | nil => intro s hs; exact hs
  | cons x rest ih => intro s hs; exact ih (h.tickAt x hs)

theorem tickAll {s : State} (hs : P s) : P s.tickAll := h.timebase _ (h.tickFold _ hs)

theorem finishTick {s : State} (hs : P s) : P s.finishTick := by
  unfold State.finishTick
  split
  · exact h.tickAll hs
  · exact hs

theorem elapse {s : State} (hs : P s) : P s.elapse := by
  unfold State.elapse
  split
  · dsimp only
    split
    · exact h.tickAll (h.finishTick hs)
    · exact h.timebase _ (h.finishTick hs)
  · exact hs

theorem expiryAt {s : State} (x : TimerName) (owner : Bool) (hs : P s) : P (s.expiryAt x owner) := by
  obtain ⟨-, -, he⟩ | ⟨-, he⟩ := expiryAt_cases s x owner
  · rw [he]
    exact h.tickAt x hs
  · rwa [he]

/-! ### Transmitters -/

theorem transmissionBegin {s : State} (l : Line) {t : State} (hs : P s) (ht : execTransmissionBegin l s = .next t) :
    P t := by
  cases ht
  split
  · rename_i hmay
    split
    · rename_i x hx
      obtain ⟨r, rest, rfl, hr⟩ | ⟨i, a, k, rfl, ha, hl⟩ | ⟨i, a, e, rfl, ha, hl, hsend, he⟩ := choose_cases hx
      · exact h.send (s.line l).controlPtr (s.line l).dataPtr hs hmay (hr ▸ List.sublist_cons_self r rest) bumpBurst_le
          (fun x hx => by cases hx)
      · have hrev := h.clerical hs ha (clerical_controlBegun a k)
        have := h.send (l := l) (f := a.frameOf (a.controlBody k)) (src := .association i (s.generation i))
          (buffer := none) (replies := (s.line l).replies) (burst := bumpBurst (s.line l).burst) i (s.line l).dataPtr
          hrev (by simpa using hmay) (by simp) (by simpa using bumpBurst_le) (fun x hx => by cases hx)
        simpa [State.beginChoice] using this
      · have hrev := h.revise hs ha (revises_dataBegun hsend)
        have := h.send (l := l) (f := a.frameOf (s.dataBody e)) (src := .association i (s.generation i))
          (buffer := some e.buffer) (replies := (s.line l).replies) (burst := 0) (s.line l).controlPtr i
          hrev (by simpa using hmay) (by simp) (fun _ => Nat.zero_le _)
          (fun x hx => ⟨i, a.dataBegun, by simp, hl, by cases hx; exact List.mem_map_of_mem he⟩)
        simpa [State.beginChoice] using this
    · exact hs
  · exact hs

/-! ### Mailbox commands -/

theorem complete {s : State} (code : Completion) (hs : P s) : P (s.complete code) :=
  h.frame s.dataOut s.timebase _ s.flags hs

theorem completeOk {s : State} (q : Vector Word 4) (hs : P s) : P (s.completeOk q) :=
  h.frame s.dataOut s.timebase _ s.flags hs

omit h in
theorem onLatched {s : State} (code : Byte) {f : Vector Word 6 → State} (hs : P s) (hf : ∀ p, P (f p)) :
    P (s.onLatched code f) := by
  unfold State.onLatched
  split
  · exact hs
  · split
    · exact hf _
    · exact hs

theorem withHandle {s : State} (p : Vector Word 6) {f : Slot → Assoc → State} (hs : P s)
    (hf : ∀ i a, s.assocAt i = some a → P (f i a)) : P (s.withHandle p f) := by
  unfold State.withHandle
  split
  · exact h.complete _ hs
  · rename_i i a hcur
    obtain ⟨-, -, ha⟩ := (current_eq_some s).1 hcur
    exact hf i a ha

theorem completeOpen {s : State} {k : Key} {ps : Params} (hs : P s) (hp : ps.inRange = true) :
    P (s.completeOpen k ps) := by
  unfold State.completeOpen
  split
  · exact h.complete _ hs
  · rename_i hopens
    split
    · exact h.complete _ hs
    · rename_i hnone
      split
      · exact h.complete _ hs
      · rename_i i hi
        have hcreate : P (s.create i (s.opensAssoc i k ps)) :=
          h.opening hs (by simpa using hopens) (by simpa using hnone) (freeSlot_eq_some hi) hp
        refine h.completeOk _ (h.finish ⟨hcreate, fun j a hj ha => ?_⟩)
        cases hj
        have hself : (s.create i (s.opensAssoc i k ps)).assocAt i = some a := ha
        rw [assocAt_create_self] at hself
        cases hself
        exact ⟨rfl, rfl, rfl⟩

theorem mailboxOpen {s : State} (hs : P s) (t : State) (ht : execCmdOpen s = .next t) : P t := by
  cases ht
  refine onLatched _ hs fun p => ?_
  split
  · exact h.complete _ hs
  · rename_i k hk
    exact h.completeOpen hs (inRange_of_openOperands (k := k.1) (ps := k.2) hk)

theorem mailboxAccept {s : State} (hs : P s) (t : State) (ht : execCmdAccept s = .next t) : P t := by
  cases ht
  refine onLatched _ hs fun p => h.withHandle p hs fun i a ha => ?_
  split
  · exact h.complete _ hs
  · rename_i hoff
    exact h.completeOk _ (h.accept hs ha (by simpa using hoff))

theorem mailboxRefuse {s : State} (hs : P s) (t : State) (ht : execCmdRefuse s = .next t) : P t := by
  cases ht
  refine onLatched _ hs fun p => h.withHandle p hs fun i a _ => ?_
  split
  · exact h.complete _ hs
  · exact h.completeOk _ (h.finishPlain (h.anyEnd _ _ (h.handReply _ _ hs)) (served_endAssoc _ _ _))

theorem mailboxSubmit {s : State} (hs : P s) (t : State) (ht : execCmdSubmit s = .next t) : P t := by
  cases ht
  refine onLatched _ hs fun p => h.withHandle p hs fun i a ha => ?_
  split
  · exact h.complete _ hs
  · unfold State.completeSubmit
    split_ifs with hopen _ hhost hfull
    · exact h.complete _ hs
    · exact h.complete _ hs
    · exact h.complete _ hs
    · exact h.complete _ hs
    · exact h.completeOk _ (h.submit _ hs ha (by simpa using hopen) (by simpa using hhost) (by simpa using hfull))

theorem mailboxTake {s : State} (hs : P s) (t : State) (ht : execCmdTake s = .next t) : P t := by
  cases ht
  refine onLatched _ hs fun p => h.withHandle p hs fun i a ha => ?_
  split
  · exact h.complete _ hs
  · split
    · exact h.complete _ hs
    · rename_i hq
      exact h.completeOk _ (h.finishPlain (h.takeMessage hs ha hq) rfl)

theorem mailboxHold {s : State} (hs : P s) (t : State) (ht : execCmdHold s = .next t) : P t := by
  cases ht
  refine onLatched _ hs fun p => h.withHandle p hs fun i a ha => ?_
  split
  · exact h.complete _ hs
  · exact h.completeOk _ (h.clerical hs ha rfl)

theorem mailboxResume {s : State} (hs : P s) (t : State) (ht : execCmdResume s = .next t) : P t := by
  cases ht
  refine onLatched _ hs fun p => h.withHandle p hs fun i a ha => ?_
  split
  · exact h.complete _ hs
  · exact h.completeOk _ (h.finishPlain (h.clerical hs ha rfl) rfl)

theorem mailboxClose {s : State} (hs : P s) (t : State) (ht : execCmdClose s = .next t) : P t := by
  cases ht
  refine onLatched _ hs fun p => h.withHandle p hs fun i a ha => ?_
  split
  · exact h.complete _ hs
  · rename_i hopen
    exact h.completeOk _ (h.revise hs ha (revises_closes (by simpa using hopen)))

theorem abort {c : Claim} (i : Slot) (a : Assoc) (hs : P c.st) : P (c.abort i a).st :=
  h.anyEnd _ _ (h.handReply _ _ hs)

theorem mailboxAbort {s : State} (hs : P s) (t : State) (ht : execCmdAbort s = .next t) : P t := by
  cases ht
  refine onLatched _ hs fun p => h.withHandle p hs fun i a _ => ?_
  split
  · exact h.complete _ hs
  · exact h.completeOk _ (h.finishPlain (h.abort i a hs) (served_abort _ _ _))

theorem abortGroup (l : Line) (value mask : Station) (slots : List Slot) : ∀ {c : Claim} (n : Nat), P c.st →
    c.served = none → P (Claim.abortGroup l value mask slots c n).1.st ∧
      (Claim.abortGroup l value mask slots c n).1.served = none := by
  induction slots with
  | nil => intro c n hs hn; exact ⟨hs, hn⟩
  | cons i rest ih =>
    intro c n hs hn
    rw [Claim.abortGroup]
    split
    · exact ih n hs hn
    · split
      · exact ih _ (h.abort _ _ hs) (by rw [served_abort, hn])
      · exact ih n hs hn

theorem mailboxAbortGroup {s : State} (hs : P s) (t : State) (ht : execCmdAbortGroup s = .next t) : P t := by
  cases ht
  refine onLatched _ hs fun p => ?_
  split
  · exact h.complete _ hs
  · rename_i l value mask _
    split
    · exact h.complete _ hs
    · obtain ⟨hst, hserved⟩ := h.abortGroup l value mask allSlots (c := Claim.begin s) 0 hs rfl
      exact h.completeOk _ (h.finishPlain hst hserved)

theorem mailboxRelease {s : State} (hs : P s) (t : State) (ht : execCmdRelease s = .next t) : P t := by
  cases ht
  refine onLatched _ hs fun p => h.withHandle p hs fun i a ha => ?_
  split
  · exact h.complete _ hs
  · rename_i hdead
    have served_returnAll (es : List InboundEntry) : ∀ c : Claim, (Claim.returnAll es c).served = c.served := by
      induction es with
      | nil => intro c; rfl
      | cons e rest ih => intro c; exact ih _
    exact h.completeOk _ (h.finishPlain (h.release hs ha (by simpa using hdead)) (served_returnAll _ _))

theorem mailboxAllocate {s : State} (hs : P s) (t : State) (ht : execCmdAllocate s = .next t) : P t := by
  cases ht
  refine onLatched _ hs fun p => ?_
  split
  · exact h.complete _ hs
  · rename_i b rest hfree
    split
    · exact h.complete _ hs
    · rename_i hroom
      exact h.completeOk _ (h.allocate hs hfree (by rw [hfree]; omega))

theorem mailboxFree {s : State} (hs : P s) (t : State) (ht : execCmdFree s = .next t) : P t := by
  cases ht
  refine onLatched _ hs fun p => ?_
  split
  · exact h.complete _ hs
  · split
    · exact h.complete _ hs
    · rename_i hhost
      exact h.completeOk _ (h.finishPlain (h.giveBuffer hs (by simpa using hhost)) rfl)

theorem mailboxQuery {s : State} (hs : P s) (t : State) (ht : execCmdQuery s = .next t) : P t := by
  cases ht
  refine onLatched _ hs fun p => ?_
  split
  · exact h.complete _ hs
  · exact h.completeOk _ hs

theorem mailboxSetListen {s : State} (hs : P s) (t : State) (ht : execCmdSetListen s = .next t) : P t := by
  cases ht
  refine onLatched _ hs fun p => ?_
  split
  · exact h.complete _ hs
  · rename_i hp
    exact h.completeOk _ (h.listenSet _ hs (inRange_of_listenOperands hp))

theorem mailboxGetListen {s : State} (hs : P s) (t : State) (ht : execCmdGetListen s = .next t) : P t := by
  cases ht
  refine onLatched _ hs fun p => ?_
  split
  · exact h.complete _ hs
  · exact h.completeOk _ hs

theorem mailboxBad {s : State} (hs : P s) (t : State) (ht : execCmdBad s = .next t) : P t := by
  cases ht
  split
  · exact hs
  · split
    · exact hs
    · exact h.complete _ hs

/-! ### Lines and controller -/

theorem receive {s : State} (l : Line) (bits : List Bool) (hs : P s) : P (s.receive l bits) := by
  unfold State.receive
  split
  · exact hs
  · exact h.clericalLine hs (clerical_receive _ _)

theorem carrierChange {s : State} (l : Line) (hs : P s) :
    (∀ t, execCarrierLoss l s = .next t → P t) ∧ ∀ t, execCarrierReturn l s = .next t → P t := by
  refine ⟨fun t ht => ?_, fun t ht => ?_⟩
  · cases ht
    split
    · exact h.carrierLoss hs ‹_›
    · rename_i hact
      exact h.reviseLine hs (revises_carrier false fun ha => absurd ha hact)
  · cases ht
    split
    · exact h.raiseLine l _ (h.reviseLine hs (revises_resume _))
    · exact h.raiseLine l _ (h.reviseLine hs (revises_resume _))
    · exact h.reviseLine hs (revises_carrier true fun _ => rfl)
    · exact h.reviseLine hs (revises_carrier true fun _ => rfl)

theorem writeLineControl {s : State} (l : Line) (b : Bool) (hs : P s) : P (s.writeLineControl l b) := by
  unfold State.writeLineControl
  split
  · unfold State.enableLine
    split
    · exact h.reviseLine hs (revises_enable ‹_›)
    · exact hs
  · by_cases hd : (s.line l).state = .disabled
    · rwa [State.disableLine, if_pos hd]
    · exact h.disableLine hs hd

theorem flags {s : State} (fl : FaultFlags) (hs : P s) : P { s with flags := fl } :=
  h.frame s.dataOut s.timebase s.mailbox fl hs

theorem controlRequest {s : State} (start stop clear : Bool) (hs : P s) : P (s.controlRequest start stop clear) := by
  unfold State.controlRequest
  split
  · unfold State.requestClear
    split
    · rename_i hc
      simp only [Bool.and_eq_true, decide_eq_true_eq] at hc
      exact h.clearAll hs hc.1.2
    · exact h.flags _ hs
  · split
    · exact hs
    · split
      · exact h.control _ hs fun hc => by cases hc
      · split
        · unfold State.stopController
          split
          · exact h.settleStop (h.control _ hs fun hc => by cases hc)
          · exact hs
        · exact hs

/-! ### Host accesses -/

theorem setSelect {s : State} (x : Option BufferNo) (hs : P s) : P (s.setPool { s.pool with select := x }) :=
  h.settings x s.pool.hostFloor s.pool.refreshPtr hs

theorem writeFloor {s : State} (v : Nat) (hs : P s) : P (s.writeFloor v) :=
  h.refreshPass (h.settings s.pool.select _ s.pool.refreshPtr hs)

theorem mailbox {s : State} (mb : Mailbox) (hs : P s) : P { s with mailbox := mb } :=
  h.frame s.dataOut s.timebase mb s.flags hs

/-- A write of a register that is no word of the buffer window. -/
theorem writeReg {s : State} (lanes : BitVec 4) (data : Word) {r : Reg} (hr : ∀ k, r ≠ .window k) (hs : P s) :
    P (s.writeReg lanes data r) := by
  cases r with
  | control => exact h.controlRequest _ _ _ hs
  | faultFlags => exact h.flags _ hs
  | tickInterval =>
    change P (s.writeInterval _)
    unfold State.writeInterval
    split
    · exact hs
    · exact h.timebase _ (h.finishTick hs)
  | hostFloor =>
    change P (if _ then _ else _)
    split
    · exact h.writeFloor _ hs
    · exact hs
  | command =>
    change P (s.takeCommand _)
    unfold State.takeCommand
    split
    · exact h.flags _ hs
    · exact h.mailbox _ hs
  | param k => exact h.mailbox _ hs
  | notification => exact h.attend _ hs rfl fun hstop => ⟨hstop, rfl⟩
  | windowSelect => exact h.setSelect _ hs
  | window k => exact absurd rfl (hr k)
  | lineControl l => exact h.writeLineControl l _ hs
  | lineGrace l =>
    change P (s.writeGrace l _)
    unfold State.writeGrace
    split
    · exact hs
    · exact h.clericalLine hs rfl
  | tallyClear l => exact h.clericalLine hs rfl
  | controllerStatus | poolStatus | mailboxStatus | result | attentionPort | attentionStatus | lineStatus | tally => exact hs

theorem windowFault {s : State} (hs : P s) : P s.windowFault := h.flags _ hs

theorem writeWindow (hw : WriteLaw P) {s : State} (k : Fin 60) (lanes : BitVec 4) (data : Word) (hs : P s) :
    P (s.writeWindow k lanes data) := by
  unfold State.writeWindow
  split
  · exact hw.writeWindow _ _ _ _ hs
  · split
    · exact hs
    · exact h.windowFault hs

/-- A host write, to a word outside the buffer window or under a law of buffer writes. -/
theorem hostWrite {s : State} (word : BitVec 10) (lanes : BitVec 4) (data : Word)
    (hw : WriteLaw P ∨ ¬ (64 ≤ word.toNat ∧ word.toNat < 124)) (hs : P s) : P (s.hostWrite word lanes data) := by
  unfold State.hostWrite
  split
  · exact hs
  · split
    · exact hs
    · rename_i r hr
      by_cases hwin : ∃ k, r = .window k
      · obtain ⟨k, rfl⟩ := hwin
        exact h.writeWindow (hw.resolve_right fun hn => regAt_ne_window hn k hr) k lanes data hs
      · exact h.writeReg lanes data (fun k hk => hwin ⟨k, hk⟩) hs

theorem hostRead {s : State} (word : BitVec 10) (lanes : BitVec 4) (hs : P s) : P (s.hostRead word lanes).2 := by
  unfold State.hostRead
  split
  · exact hs
  · split
    · exact hs
    · dsimp only
      split
      · exact h.takeNotice hs
      · exact hs
    · rename_i k _
      change P (s.readWindow k lanes).2
      unfold State.readWindow
      split
      · exact hs
      · dsimp only
        split
        · exact hs
        · exact h.windowFault hs
    · exact hs

theorem busRead {s : State} (word : BitVec 10) (lanes : BitVec 4) (hs : P s) : P (s.busRead word lanes) := by
  have hread := h.hostRead word lanes hs
  exact h.frame _ (s.hostRead word lanes).2.timebase (s.hostRead word lanes).2.mailbox (s.hostRead word lanes).2.flags
    hread

/-! ### The receive dispatcher -/

theorem reply {c : Claim} (l : Line) (r : Reply) (hc : Claim.Good P c) (hn : c.served = none) : Claim.Good P (c.reply l r) :=
  .of_plain (h.handReply l r hc.st) hn

/-- Admission, from a state in which its creation keeps the law. -/
theorem admitThrough {c : Claim} {l : Line} {f : Frame} {limit credit : Nat} {n : ListenNo} {i : Slot}
    (hst : P (c.st.admitted l f limit credit n i)) (hn : c.served = none) : Claim.Good P (c.admitThrough l f limit credit n i) := by
  have hself := assocAt_admitted_self c.st l f limit credit n i
  unfold Claim.admitThrough
  dsimp only
  split
  · rename_i hauto
    refine ⟨h.raiseSlot .opened hst hself, fun j a hj ha => ?_⟩
    cases hj
    have hraised := assocAt_raiseSlot_self _ hself .opened
    have ha' : ((c.st.admitted l f limit credit n i).raiseSlot i .opened).assocAt i = some a := ha
    rw [hraised] at ha'
    cases ha'
    exact Assoc.Untouched.reasons _ (admittedAssoc_untouched l f limit credit n hauto)
  · exact .of_plain (h.raiseSlot .offered hst hself) hn

theorem noAssociation {c : Claim} {l : Line} {f : Frame} (hs : P c.st) (hn : c.served = none)
    (hact : (c.st.line l).state = .active)
    (hfree : ∀ j, c.st.lookup (f.key l) = some j → c.st.assocAt j = none) (hf : f.inRange) :
    Claim.Good P (c.noAssociation l f) := by
  have hplain : Claim.Good P c := .of_plain hs hn
  obtain ⟨-, -, -, hbody⟩ := (Frame.inRange_iff f).1 hf
  unfold Claim.noAssociation
  split
  · rename_i limit credit heq
    rw [heq] at hbody
    obtain ⟨r, he⟩ | ⟨n, i, hi, he⟩ := listenAdmission_cases c l f limit credit
    · rw [he]
      exact h.reply l r hplain hn
    · rw [he]
      exact h.admitThrough (h.admission hs hact hfree hi hbody.2.2) hn
  all_goals first | exact h.reply _ _ hplain hn | exact hplain

theorem otherEpoch {c : Claim} {l : Line} {f : Frame} {i : Slot} {a : Assoc} (hs : P c.st) (hn : c.served = none)
    (hact : (c.st.line l).state = .active) (hat : c.st.lookup (f.key l) = some i) (ha : c.st.assocAt i = some a)
    (hf : f.inRange) : Claim.Good P (c.otherEpoch l f i a) := by
  have hplain : Claim.Good P c := .of_plain hs hn
  obtain ⟨-, -, -, hbody⟩ := (Frame.inRange_iff f).1 hf
  unfold Claim.otherEpoch
  split
  · rename_i limit credit heq
    rw [heq] at hbody
    split
    · exact h.reply _ _ hplain hn
    · unfold Claim.restart
      have hend : P (c.endAssoc i .remoteReset).st := h.anyEnd _ _ hs
      have hserved : (c.endAssoc i .remoteReset).served = none := by rw [served_endAssoc, hn]
      obtain ⟨r, he⟩ | ⟨n, j, hj, he⟩ := listenAdmission_cases (c.endAssoc i .remoteReset) l f limit credit
      · rw [he]
        exact h.reply l r (.of_plain hend hserved) hserved
      · rw [he]
        exact h.admitThrough (h.restart hs hat ha hact hj hbody.2.2) hserved
  all_goals first | exact h.reply _ _ hplain hn | exact hplain

theorem receiptArrival {c : Claim} {i : Slot} {a : Assoc} {next : Tag} {credit : Nat} (hs : P c.st)
    (hn : c.served = none) (ha : c.st.assocAt i = some a) (hc : credit ≤ 15) :
    (a.state.sends = true → Claim.Good P (c.receiptSending i a next credit)) ∧
      Claim.Good P (c.receiptClosing i a next credit) := by
  have hend (cause : EndCause) : Claim.Good P (c.endAssoc i cause) := .of_plain (h.anyEnd _ _ hs) (by rw [served_endAssoc, hn])
  constructor
  · intro hsend
    unfold Claim.receiptSending
    dsimp only
    split
    · rename_i hsent
      have hmoved := h.receipted (next := next) hs ha hsend hsent hc
      split
      · exact .of_plain (h.raiseSlot .drained hmoved (assocAt_setAssoc_self _ i _)) (by simpa using hn)
      · exact .of_plain hmoved (by simpa using hn)
    · split
      · exact hend _
      · exact .of_plain (h.clerical hs ha (clerical_settle a false)) hn
  · unfold Claim.receiptClosing
    dsimp only
    split
    · rename_i hbase
      exact .of_plain (h.revise hs ha (revises_peerLimit hbase hc)) hn
    · split
      · exact hend _
      · exact .of_plain hs hn

theorem dataArrival (hw : WriteLaw P) {c t : Claim} {i : Slot} {a : Assoc} {tag : Tag} {payload : List Byte}
    (hs : P c.st) (hn : c.served = none) (ha : c.st.assocAt i = some a) (hr : a.state.receives = true)
    (ht : c.dataArrival i a tag payload = some t) : Claim.Good P t := by
  have hend (cause : EndCause) : Claim.Good P (c.endAssoc i cause) := .of_plain (h.anyEnd _ _ hs) (by rw [served_endAssoc, hn])
  have howe : Claim.Good P (c.update fun s => s.setAssoc i (a.owe .receipt)) :=
    .of_plain (h.clerical hs ha (clerical_owe a .receipt)) hn
  unfold Claim.dataArrival at ht
  split at ht
  · cases ht
    exact hend _
  · rename_i hfits
    split at ht
    · rename_i hclass
      obtain ⟨-, hg⟩ := dataClass_eq_expected hclass
      unfold Claim.acceptData at ht
      split at ht
      · cases ht
      · rename_i b rest hfree
        cases ht
        have hstored := hw.acceptData (payload := payload) hs ha hr hg (by omega) hfree
        split
        · exact .of_plain (h.raiseSlot .inbound hstored (assocAt_setAssoc_self _ i _)) hn
        · exact .of_plain hstored hn
    all_goals
      cases ht
      first | exact howe | exact hend _

theorem closeArrival {c : Claim} (i : Slot) (a : Assoc) (finalTag : Tag) (hs : P c.st) (hn : c.served = none) :
    Claim.Good P (c.closeArrival i a finalTag) := by
  unfold Claim.closeArrival
  split
  · exact .of_plain (h.anyEnd _ _ (h.handReply _ _ hs)) (by rw [served_endAssoc]; exact hn)
  · exact .of_plain (h.anyEnd _ _ hs) (by rw [served_endAssoc, hn])

theorem sameEpoch (hw : WriteLaw P) {c t : Claim} {l : Line} {f : Frame} {i : Slot} {a : Assoc} (hs : P c.st)
    (hn : c.served = none) (ha : c.st.assocAt i = some a) (hf : f.inRange) (ht : c.sameEpoch l f i a = some t) :
    Claim.Good P t := by
  obtain ⟨-, -, -, hbody⟩ := (Frame.inRange_iff f).1 hf
  have hplain : Claim.Good P c := .of_plain hs hn
  have hend (cause : EndCause) : Claim.Good P (c.endAssoc i cause) := .of_plain (h.anyEnd _ _ hs) (by rw [served_endAssoc, hn])
  have hclerk {b : Assoc} (hb : a.Clerical b) : Claim.Good P (c.update fun s => s.setAssoc i b) :=
    .of_plain (h.clerical hs ha hb) hn
  unfold Claim.sameEpoch at ht
  split at ht
  case h_6 limit credit heq hst =>
    cases ht
    rw [heq] at hbody
    exact .of_plain (h.raiseSlot .opened (h.revise hs ha (revises_accepted hst limit hbody.2.2))
      (assocAt_setAssoc_self _ i _)) hn
  case h_8 | h_9 | h_10 =>
    rename_i hst
    exact h.dataArrival hw hs hn ha (by rw [hst]; rfl) ht
  case h_11 | h_12 =>
    rename_i next credit heq hst
    cases ht
    rw [heq] at hbody
    exact (h.receiptArrival hs hn ha hbody).1 (by rw [hst]; rfl)
  case h_13 next credit heq hst =>
    cases ht
    rw [heq] at hbody
    exact (h.receiptArrival hs hn ha hbody).2
  case h_2 => cases ht; exact h.reply _ _ hplain hn
  case h_3 | h_4 | h_5 => cases ht; exact hclerk (clerical_duplicateOpen a)
  case h_14 | h_15 | h_16 => cases ht; exact hclerk (clerical_owe a .receipt)
  case h_17 | h_18 | h_19 => cases ht; exact h.closeArrival i a _ hs hn
  case h_1 | h_7 | h_20 => cases ht; exact hend _
  case h_21 => cases ht; exact hplain

theorem dispatchFrame (hw : WriteLaw P) {s t : State} {l : Line} {d : Delivered} (hs : P s)
    (ht : s.dispatchFrame l d = some t) : P t := by
  unfold State.dispatchFrame at ht
  split at ht
  · cases ht
    exact hs
  · cases ht
    exact h.bumpTally l _ hs
  · rename_i f hj
    obtain ⟨c, hc, rfl⟩ := Option.map_eq_some_iff.1 ht
    refine h.finish ?_
    have hjudge : (s.line l).state = .active ∧ f.inRange := by
      unfold State.judge at hj
      split_ifs at hj with hact _ _
      split at hj
      · cases hj
      · cases hj
        exact ⟨by simpa using hact, (parseFrame_eq_some ‹_›).1⟩
    obtain ⟨hact, hf⟩ := hjudge
    unfold Claim.dispatch at hc
    split at hc
    · rename_i hnone
      cases hc
      exact h.noAssociation hs rfl hact (fun j hj => by rw [Frame.key, hnone] at hj; cases hj) hf
    · rename_i i hi
      split at hc
      · rename_i hfree
        cases hc
        exact h.noAssociation hs rfl hact (fun j hj => by rw [Frame.key, hi] at hj; cases hj; exact hfree) hf
      · rename_i a ha
        split at hc
        · exact h.sameEpoch hw hs rfl ha hf hc
        · cases hc
          exact h.otherEpoch hs rfl hact hi ha hf

theorem receiveDispatch (hw : WriteLaw P) {s t : State} {l : Line} (hs : P s) (ht : execReceiveDispatch l s = .next t) :
    P t := by
  unfold execReceiveDispatch at ht
  split at ht
  · cases ht
    exact hs
  · split at ht
    · rename_i u hu
      cases ht
      exact h.dispatchFrame hw (h.clericalLine hs (clerical_popArrived s l)) hu
    · cases ht

/-! ### Commands and steps -/

/-- A command keeps a law, if it writes no buffer byte or the law is one of buffer writes. -/
theorem exec {c : Instr} {s t : State} (hw : writesBuffers c = true → WriteLaw P) (hs : P s)
    (ht : Machine.exec c s = .next t) : P t := by
  have hwrite (word : BitVec 10) (lanes : BitVec 4) (data : Word)
      (hword : ¬ (64 ≤ word.toNat ∧ word.toNat < 124)) : P (s.hostWrite word lanes data) :=
    h.hostWrite word lanes data (.inr hword) hs
  cases c with
  | deviceReset edge =>
    cases ht
    cases edge with
    | assertion => exact (hw rfl).deviceReset true hs
    | pulse => exact (hw rfl).deviceReset false hs
    | release =>
      change P (if _ then _ else _)
      split
      · exact (hw rfl).deviceReset false hs
      · exact hs
  | carrierLoss l => exact (h.carrierChange l hs).1 t ht
  | carrierReturn l => exact (h.carrierChange l hs).2 t ht
  | frameArrival l coded => cases ht; exact h.receive l _ hs
  | startPattern l bits => cases ht; exact h.receive l _ hs
  | frameAborted l coded cause => cases ht; exact h.receive l _ hs
  | receiveDispatch l => exact h.receiveDispatch (hw rfl) hs ht
  | transmissionBegin l => exact h.transmissionBegin l hs ht
  | transmissionCompletion l => cases ht; exact h.endFrame l _ hs
  | transmissionCut l => cases ht; exact h.endFrame l _ hs
  | tick which =>
    cases ht
    cases which with
    | none =>
      change P (if _ then _ else _)
      split
      · exact h.tickAll hs
      · exact hs
    | some x => exact h.tickAt x hs
  | openRetryExpiry i => cases ht; exact h.expiryAt _ _ hs
  | offerExpiry i => cases ht; exact h.expiryAt _ _ hs
  | resendExpiry i => cases ht; exact h.expiryAt _ _ hs
  | closeTimerExpiry i => cases ht; exact h.expiryAt _ _ hs
  | receiptTimerExpiry i => cases ht; exact h.expiryAt _ _ hs
  | graceExpiry l => cases ht; exact h.expiryAt _ _ hs
  | holdoffExpiry => cases ht; exact h.expiryAt _ _ hs
  | cmdOpen => exact h.mailboxOpen hs t ht
  | cmdAccept => exact h.mailboxAccept hs t ht
  | cmdRefuse => exact h.mailboxRefuse hs t ht
  | cmdSubmit => exact h.mailboxSubmit hs t ht
  | cmdTake => exact h.mailboxTake hs t ht
  | cmdHold => exact h.mailboxHold hs t ht
  | cmdResume => exact h.mailboxResume hs t ht
  | cmdClose => exact h.mailboxClose hs t ht
  | cmdAbort => exact h.mailboxAbort hs t ht
  | cmdAbortGroup => exact h.mailboxAbortGroup hs t ht
  | cmdRelease => exact h.mailboxRelease hs t ht
  | cmdAllocate => exact h.mailboxAllocate hs t ht
  | cmdFree => exact h.mailboxFree hs t ht
  | cmdQuery => exact h.mailboxQuery hs t ht
  | cmdSetListen => exact h.mailboxSetListen hs t ht
  | cmdGetListen => exact h.mailboxGetListen hs t ht
  | cmdBad => exact h.mailboxBad hs t ht
  | start => cases ht; exact hwrite _ _ _ (by decide)
  | stop => cases ht; exact hwrite _ _ _ (by decide)
  | clear withStart withStop => cases ht; exact hwrite _ _ _ (by decide)
  | lineEnable l => cases ht; exact hwrite _ _ _ (by cases l <;> decide)
  | lineDisable l => cases ht; exact hwrite _ _ _ (by cases l <;> decide)
  | faultFlagClear value => cases ht; exact hwrite _ _ _ (by decide)
  | tallyClear l value => cases ht; exact hwrite _ _ _ (by cases l <;> decide)
  | tickIntervalWrite value => cases ht; exact hwrite _ _ _ (by decide)
  | hostFloorWrite value => cases ht; exact hwrite _ _ _ (by decide)
  | notificationSettingsWrite value => cases ht; exact hwrite _ _ _ (by decide)
  | attentionPortRead lanes => cases ht; exact h.busRead _ _ hs
  | bufferWindowRead word lanes => cases ht; exact h.busRead _ _ hs
  | bufferWindowWrite word lanes data => cases ht; exact h.hostWrite _ _ _ (.inl (hw rfl)) hs
  | registerWrite word lanes data => cases ht; exact h.hostWrite _ _ _ (.inl (hw rfl)) hs

/-- A step keeps a law that does not look at the queue. -/
theorem step (hw : WriteLaw P) (hq : ∀ (s : State) (q : List Instr), P s → P { s with pending := q }) {s t : State}
    (hs : P s) (ht : Machine.step s = .next t) : P t := by
  unfold Machine.step at ht
  split at ht
  · cases ht
    exact h.elapse hs
  · exact h.exec (fun _ => hw) (hq s _ hs) ht

end Law

end Sys2Proof.Machine
end

section
/-! Laws that need nothing special at a restart, at ACCEPT or at the loss of a line, and the two plainest of them: the queue of
waiting commands, and the buffer bytes. -/

namespace Sys2Proof.Machine

namespace CoreLaw

variable {P : State → Prop} (h : CoreLaw P)

include h

/-- ACCEPT, where the served raise fits (R56, R134). -/
theorem accept_of {s : State} {i : Slot} {a : Assoc} (hraise : ∀ {s : State} {i : Slot} {a : Assoc} {n : Nat}, P s →
    s.assocAt i = some a → a.state.credits = true → n ≤ s.available → P (s.raiseGrant i a n)) (hs : P s)
    (ha : s.assocAt i = some a) (hoff : a.state = .offered) :
    P (((s.setAssoc i a.acceptedOffer).raiseSlot i .opened).servingPass i) := by
  have hopened := h.raiseSlot .opened (h.revise hs ha (revises_acceptedOffer hoff)) (assocAt_setAssoc_self s i _)
  have hself := assocAt_raiseSlot_self _ (assocAt_setAssoc_self s i a.acceptedOffer) .opened
  rw [servingPass_eq hself]
  refine h.refreshPass ?_
  unfold State.served
  split
  · exact hopened
  · exact hraise hopened hself rfl (Nat.min_le_right _ _)

theorem endLine (l : Line) (cause : EndCause) (slots : List Slot) : ∀ {c : Claim}, P c.st →
    P (Claim.endLine l cause slots c).st := by
  induction slots with
  | nil => intro c hs; exact hs
  | cons i rest ih =>
    intro c hs
    rw [Claim.endLine]
    refine ih ?_
    split
    · split
      · exact h.anyEnd _ _ hs
      · exact hs
    · exact hs

omit h in
theorem served_endLine (l : Line) (cause : EndCause) (slots : List Slot) : ∀ c : Claim,
    (Claim.endLine l cause slots c).served = c.served := by
  induction slots with
  | nil => intro c; rfl
  | cons i rest ih =>
    intro c
    rw [Claim.endLine, ih]
    split
    · split
      · exact served_endAssoc _ _ _
      · rfl
    · rfl

/-- The loss of a line, for a law that looks at no more of a line than reasons and transmitter (R163, R165, R166). -/
theorem lineLoss_of (hline : ∀ {s : State} {l : Line} {q : LineRecord}, P s → q.reasons = (s.line l).reasons →
    q.tx = (s.line l).tx → P (s.setLine l q)) {s : State} (l : Line) (hs : P s) :
    P (((s.setLine l (s.line l).suspend).raiseLine l .suspended).cutFrame l) ∧ P (s.goDown l) ∧ P (s.disableLine l) := by
  have drop_reasons (r : LineRecord) : r.dropReception.reasons = r.reasons ∧ r.dropReception.tx = r.tx := by
    unfold LineRecord.dropReception
    split <;> exact ⟨rfl, rfl⟩
  have lose {s : State} (st : LineState) (cause : EndCause) (hs : P s) : P (s.loseLine l st cause).st := by
    have hended := h.endLine l cause allSlots
      (c := Claim.begin (s.setLine l { s.line l with state := st, graceTimer := .stopped })) (hline hs rfl rfl)
    unfold State.loseLine
    dsimp only [update_st]
    generalize Claim.endLine l cause allSlots _ = c at hended ⊢
    exact hline hended rfl rfl
  have lose_served (s : State) (st : LineState) (cause : EndCause) : (s.loseLine l st cause).served = none := by
    simp only [State.loseLine, update_served, served_endLine, begin_served]
  refine ⟨h.endFrame l _ (h.raiseLine l _ (hline hs (drop_reasons _).1 (drop_reasons _).2)), ?_, ?_⟩
  · have hdown := h.raiseLine l .down (lose .down .lineDown hs)
    have hserved := lose_served s .down .lineDown
    unfold State.goDown
    generalize s.loseLine l .down .lineDown = c at hdown hserved ⊢
    exact h.finishPlain hdown hserved
  unfold State.disableLine
  split
  · exact hs
  · exact h.endFrame l _ (h.finishPlain (lose .disabled .lineDisabled
      (hline hs (drop_reasons _).1 (drop_reasons _).2)) (lose_served _ .disabled .lineDisabled))

/-- A core law that looks at no line state, no fit of a raise and no key is a law. -/
theorem law (hraise : ∀ {s : State} {i : Slot} {a : Assoc} {n : Nat}, P s → s.assocAt i = some a →
      a.state.credits = true → n ≤ s.available → P (s.raiseGrant i a n))
    (hadmit : ∀ {s : State} {l : Line} {f : Frame} {limit credit : Nat} {n : ListenNo} {i : Slot}, P s →
      s.assocAt i = none → P (s.admitted l f limit credit n i))
    (hline : ∀ {s : State} {l : Line} {q : LineRecord}, P s → q.reasons = (s.line l).reasons →
      q.tx = (s.line l).tx → P (s.setLine l q)) : Law P :=
  { h with
    restart := fun hs _ _ _ hfree _ => hadmit (h.anyEnd _ _ hs) hfree
    accept := h.accept_of hraise
    carrierLoss := fun hs _ => (h.lineLoss_of hline _ hs).1
    goDown := fun hs _ => (h.lineLoss_of hline _ hs).2.1
    disableLine := fun hs _ => (h.lineLoss_of hline _ hs).2.2 }

end CoreLaw

/-! ### More about the operations -/

/-- Returned buffers change the pool alone. -/
theorem returnAll_frame (es : List InboundEntry) : ∀ c : Claim, (Claim.returnAll es c).st = c.st.setPool { c.st.pool with
    bufferState := (Claim.returnAll es c).st.pool.bufferState, freeList := (Claim.returnAll es c).st.pool.freeList } := by
  induction es with
  | nil => intro c; rfl
  | cons e rest ih =>
    intro c
    rw [Claim.returnAll, ih]
    rfl

/-- What a release makes of the state: pool, attention list and slot (R121). -/
theorem release_st (c : Claim) (i : Slot) (a : Assoc) : (c.release i a).st =
    (((c.st.setPool (Claim.returnAll a.inboundQueue c).st.pool).setAttention (c.st.attention.leave (.slot i))).setSlotRec i
      { generation := c.st.generation i, assoc := none }) := by
  change (((Claim.returnAll a.inboundQueue c).st.setAttention _).setSlotRec i _) = _
  rw [returnAll_frame]
  rfl

/-- A retired buffer changes the pool alone. -/
theorem retire_frame (c : Claim) (b : Option BufferNo) : (c.retire b).st = c.st.setPool { c.st.pool with
    bufferState := (c.retire b).st.pool.bufferState, freeList := (c.retire b).st.pool.freeList } := by
  unfold Claim.retire
  split
  · rfl
  · split <;> rfl

section TakeNotice

variable (s : State) (src : Source)

theorem emptyReasons_cases : s.emptyReasons src = s ∨ (∃ i a, src = .slot i ∧ s.assocAt i = some a ∧
    s.emptyReasons src = s.setAssoc i { a with reasons := .empty }) ∨
    ∃ l, src = .line l ∧ s.emptyReasons src = s.setLine l { s.line l with reasons := .empty } := by
  cases src with
  | slot i =>
    cases ha : s.assocAt i with
    | none => exact .inl (by simp [State.emptyReasons, ha])
    | some a => exact .inr (.inl ⟨i, a, rfl, ha, by simp [State.emptyReasons, ha]⟩)
  | line l => exact .inr (.inr ⟨l, rfl, rfl⟩)

/-- A taken notice changes a reason set and the attention unit (R182). -/
theorem takeNotice_cases : (s.attention.list = [] ∧ s.takeNotice = s.setAttention { s.attention with holding := none }) ∨
    ∃ src rest, s.attention.list = src :: rest ∧ s.takeNotice = (s.emptyReasons src).setAttention
      { (s.emptyReasons src).attention.shorten rest with holding := some (s.noticeOf src) } := by
  unfold State.takeNotice
  cases h : s.attention.list with
  | nil => exact .inl ⟨rfl, rfl⟩
  | cons src rest => exact .inr ⟨src, rest, rfl, rfl⟩

@[simp] theorem pending_takeNotice : s.takeNotice.pending = s.pending := by
  obtain ⟨-, he⟩ | ⟨src, rest, -, he⟩ := takeNotice_cases s
  · rw [he]; rfl
  · rw [he]
    obtain he | ⟨i, a, -, -, he⟩ | ⟨l, -, he⟩ := emptyReasons_cases s src <;> simp [he]

@[simp] theorem pool_takeNotice : s.takeNotice.pool = s.pool := by
  obtain ⟨-, he⟩ | ⟨src, rest, -, he⟩ := takeNotice_cases s
  · rw [he]; rfl
  · rw [he]
    obtain he | ⟨i, a, -, -, he⟩ | ⟨l, -, he⟩ := emptyReasons_cases s src <;> simp [he]

end TakeNotice

/-! ### Laws that look at no reason -/

/-- `P` looks neither at reason sets nor at the attention unit. -/
structure ReasonBlind (P : State → Prop) : Prop where
  attention : ∀ {s : State} (t : Attention), P s → P (s.setAttention t)
  slot : ∀ {s : State} {i : Slot} {a : Assoc} (r : SlotReasons), P s → s.assocAt i = some a →
    P (s.setAssoc i { a with reasons := r })
  line : ∀ {s : State} (l : Line) (r : LineReasons), P s → P (s.setLine l { s.line l with reasons := r })

namespace ReasonBlind

variable {P : State → Prop} (h : ReasonBlind P) {s : State}

include h

theorem takeNotice (hs : P s) : P s.takeNotice := by
  obtain ⟨-, he⟩ | ⟨src, rest, -, he⟩ := takeNotice_cases s
  · rw [he]
    exact h.attention _ hs
  · rw [he]
    refine h.attention _ ?_
    obtain he | ⟨i, a, -, ha, he⟩ | ⟨l, -, he⟩ := emptyReasons_cases s src
    · rwa [he]
    · rw [he]
      exact h.slot _ hs ha
    · rw [he]
      exact h.line l _ hs

theorem raiseSlot {i : Slot} {a : Assoc} (r : SlotReason) (hs : P s) (ha : s.assocAt i = some a) : P (s.raiseSlot i r) := by
  have hraised := h.slot (a.reasons.raise r) hs ha
  unfold State.raiseSlot
  rw [ha]
  dsimp only
  split
  · exact h.attention _ hraised
  · exact hraised

theorem raiseLine (l : Line) (r : LineReason) (hs : P s) : P (s.raiseLine l r) := by
  have hraised := h.line l ((s.line l).reasons.raise r) hs
  unfold State.raiseLine
  dsimp only
  split
  · exact h.attention _ hraised
  · exact hraised

end ReasonBlind

/-! ### The queue of waiting commands -/

/-- That the queue is `q` is a law. -/
theorem pending_law (q : List Instr) : Law fun s => s.pending = q :=
  CoreLaw.law
    { frame := fun _ _ _ _ h => h
      settings := fun _ _ _ h => h
      attend := fun _ h _ _ => h
      takeNotice := fun h => by simpa using h
      control := fun _ h _ => h
      revise := fun h _ _ => h
      reviseLine := fun h _ => by simpa using h
      raiseSlot := fun _ h _ => by simpa using h
      raiseLine := fun _ _ h => by simpa using h
      raiseGrant := fun h _ _ _ _ => h
      endAssoc := fun _ h _ _ => by simpa using h
      opening := fun h _ _ _ _ => h
      admission := fun h _ _ _ _ => h
      submit := fun _ h _ _ _ _ => h
      takeMessage := fun h _ _ => h
      allocate := fun h _ _ => h
      giveBuffer := fun h _ => h
      release := fun h _ _ => by rw [release_st]; exact h
      receipted := fun h _ _ _ _ => by rw [releaseAll_st]; exact h
      send := fun _ _ h _ _ _ _ => by simpa using h
      frameEnd := fun _ h _ => by rw [update_st, setLine_pending, retire_frame]; exact h
      listenSet := fun _ h _ => h
      clearAll := fun h _ => h }
    (fun h _ _ _ => h) (fun h _ => h) (fun h _ _ => by simpa using h)

/-- Settles O3: the queue is a law, of the writing operations too. -/
theorem commandsLeaveTheQueue : Obligations.CommandsLeaveTheQueue := by
  intro c s t ht
  exact (pending_law s.pending).exec (fun _ => ⟨fun _ h => h, fun h _ _ _ _ _ => h, fun _ _ _ _ h => h⟩) rfl ht

/-! ### The buffer bytes -/

/-- That the buffer bytes are `m` is a law of every operation but those that write them (R137). -/
theorem memory_law (m : List Host.Cell) : Law fun s => s.pool.memory = m :=
  CoreLaw.law
    { frame := fun _ _ _ _ h => h
      settings := fun _ _ _ h => h
      attend := fun _ h _ _ => h
      takeNotice := fun h => by simpa using h
      control := fun _ h _ => h
      revise := fun h _ _ => h
      reviseLine := fun h _ => by simpa using h
      raiseSlot := fun _ h _ => by simpa using h
      raiseLine := fun _ _ h => by simpa using h
      raiseGrant := fun h _ _ _ _ => h
      endAssoc := fun _ h _ _ => by simpa using h
      opening := fun h _ _ _ _ => h
      admission := fun h _ _ _ _ => h
      submit := fun _ h _ _ _ _ => h
      takeMessage := fun h _ _ => h
      allocate := fun h _ _ => h
      giveBuffer := fun h _ => h
      release := fun h _ _ => by rw [release_st, setSlotRec_pool, setAttention_pool, setPool_pool, returnAll_frame]; exact h
      receipted := fun h _ _ _ _ => by rw [releaseAll_st]; exact h
      send := fun _ _ h _ _ _ _ => by simpa using h
      frameEnd := fun _ h _ => by rw [update_st, setLine_pool, retire_frame]; exact h
      listenSet := fun _ h _ => h
      clearAll := fun h _ => h }
    (fun h _ _ _ => h) (fun h _ => h) (fun h _ _ => by simpa using h)

/-- Settles O16: the buffer bytes are a law of the commands that do not write them. -/
theorem fewCommandsWriteBuffers : Obligations.FewCommandsWriteBuffers := by
  intro c s t hc ht b k
  have hmemory : t.pool.memory = s.pool.memory :=
    (memory_law s.pool.memory).exec (fun hw => by rw [hc] at hw; cases hw) rfl ht
  rw [State.bufferByte, State.bufferByte, hmemory]

end Sys2Proof.Machine
end

section
/-! Slots after the operations that create, release and clear, and counts over all slots when one slot changes. -/

namespace Sys2Proof.Machine

/-! ### Creation, release, resets -/

section Slots

variable (s : State) (i : Slot)

theorem assocAt_create_of_ne {j : Slot} (h : j ≠ i) (a : Assoc) : (s.create i a).assocAt j = s.assocAt j := by
  simp only [State.create]
  exact assocAt_setSlotRec_of_ne s h _

@[simp] theorem generation_create_self (a : Assoc) : (s.create i a).generation i = s.generation i + 1 := by
  simp only [State.create]
  exact generation_setSlotRec_self s i _

theorem slotRec_create_of_ne {j : Slot} (h : j ≠ i) (a : Assoc) : (s.create i a).slotRec j = s.slotRec j := by
  simp only [State.create]
  exact slotRec_setSlotRec_of_ne s h _

@[simp] theorem addressMap_create (a : Assoc) :
    (s.create i a).addressMap = s.addressMap ++ [{ key := a.key, slot := i }] := rfl

@[simp] theorem pool_create (a : Assoc) : (s.create i a).pool = s.pool := rfl
@[simp] theorem attention_create (a : Assoc) : (s.create i a).attention = s.attention := rfl
@[simp] theorem mailbox_create (a : Assoc) : (s.create i a).mailbox = s.mailbox := rfl
@[simp] theorem listen_create (a : Assoc) : (s.create i a).listen = s.listen := rfl
@[simp] theorem listenAt_create (a : Assoc) (n : ListenNo) : (s.create i a).listenAt n = s.listenAt n := rfl
@[simp] theorem line_create (a : Assoc) (l : Line) : (s.create i a).line l = s.line l := by cases l <;> rfl

section Admitted

variable (l : Line) (f : Frame) (limit credit : Nat) (n : ListenNo)

theorem assocAt_admitted_of_ne {j : Slot} (h : j ≠ i) :
    (s.admitted l f limit credit n i).assocAt j = s.assocAt j := by
  simp [State.admitted, assocAt_create_of_ne s i h]

theorem slotRec_admitted_of_ne {j : Slot} (h : j ≠ i) :
    (s.admitted l f limit credit n i).slotRec j = s.slotRec j := by
  simp [State.admitted, slotRec_create_of_ne s i h]

@[simp] theorem pool_admitted : (s.admitted l f limit credit n i).pool = s.pool := rfl
@[simp] theorem attention_admitted : (s.admitted l f limit credit n i).attention = s.attention := rfl
@[simp] theorem line_admitted (m : Line) : (s.admitted l f limit credit n i).line m = s.line m := by cases m <;> rfl

@[simp] theorem listenAt_admitted_self : (s.admitted l f limit credit n i).listenAt n =
    { s.listenAt n with admitted := (s.listenAt n).admitted + 1 } := by
  simp [State.admitted]

theorem listenAt_admitted_of_ne {m : ListenNo} (h : m ≠ n) :
    (s.admitted l f limit credit n i).listenAt m = s.listenAt m := by
  simp [State.admitted, listenAt_setListen_of_ne _ h]

end Admitted

@[simp] theorem assocAt_release_self (c : Claim) (a : Assoc) : (c.release i a).st.assocAt i = none := by
  simp [release_st]

theorem assocAt_release_of_ne (c : Claim) (a : Assoc) {j : Slot} (h : j ≠ i) :
    (c.release i a).st.assocAt j = c.st.assocAt j := by
  simp [release_st, assocAt_setSlotRec_of_ne _ h]

@[simp] theorem assocAt_clearAll : s.clearAll.assocAt i = none := by
  simp [State.assocAt, State.slotRec, State.clearAll]

@[simp] theorem generation_clearAll : s.clearAll.generation i = s.generation i := by
  simp [State.generation, State.slotRec, State.clearAll]

@[simp] theorem listenAt_clearAll (n : ListenNo) : s.clearAll.listenAt n = { s.listenAt n with admitted := 0 } := by
  simp [State.listenAt, State.clearAll]

@[simp] theorem line_clearAll (l : Line) : s.clearAll.line l = (s.line l).cleared := by cases l <;> rfl

@[simp] theorem assocAt_deviceReset (b : Bool) : (s.deviceReset b).assocAt i = none := by
  simp [State.assocAt, State.slotRec, State.deviceReset, State.reset, SlotRecord.reset]

@[simp] theorem generation_deviceReset (b : Bool) : (s.deviceReset b).generation i = 0 := by
  simp [State.generation, State.slotRec, State.deviceReset, State.reset, SlotRecord.reset]

@[simp] theorem listenAt_deviceReset (b : Bool) (n : ListenNo) : (s.deviceReset b).listenAt n = .reset := by
  simp [State.listenAt, State.deviceReset, State.reset]

@[simp] theorem line_deviceReset (b : Bool) (l : Line) : (s.deviceReset b).line l = .reset (s.line l).carrier := by
  cases l <;> rfl

end Slots

/-- What admission writes into a record, whatever the mode of its entry. -/
theorem admittedAssoc_facts (l : Line) (f : Frame) (limit credit : Nat) (n : ListenNo) (e : ListenEntry) :
    ∃ a, admittedAssoc l f limit credit n e = a ∧ a.state.isLive = true ∧ a.key = f.key l ∧ a.origin = .listen n ∧
      a.params = e.params ∧ a.grant = 0 ∧ a.sendQueue = [] ∧ a.inboundQueue = [] ∧ a.reasons = .empty := by
  refine ⟨_, rfl, ?_⟩
  unfold admittedAssoc
  split <;> exact ⟨rfl, rfl, rfl, rfl, rfl, rfl, rfl, rfl⟩

/-! ### Returned and retired buffers -/

theorem freeList_returnAll (es : List InboundEntry) : ∀ c : Claim,
    (Claim.returnAll es c).st.pool.freeList = c.st.pool.freeList ++ es.map (·.buffer) := by
  induction es with
  | nil => intro c; simp [Claim.returnAll]
  | cons e rest ih =>
    intro c
    rw [Claim.returnAll, ih, returnBuffer_st, setPool_pool, List.append_assoc, List.map_cons, List.singleton_append]

theorem bufferStateAt_returnAll (es : List InboundEntry) (b : BufferNo) : ∀ c : Claim,
    (Claim.returnAll es c).st.bufferStateAt b = if b ∈ es.map (·.buffer) then .free else c.st.bufferStateAt b := by
  induction es with
  | nil => intro c; simp [Claim.returnAll]
  | cons e rest ih =>
    intro c
    rw [Claim.returnAll, ih]
    have hone : (c.returnBuffer e.buffer).st.bufferStateAt b = if b = e.buffer then .free else c.st.bufferStateAt b :=
      bufferStateAt_setState c.st e.buffer b .free
    rw [hone]
    by_cases hb : b = e.buffer
    · simp [hb]
    · simp [hb]

/-- A RETIRING buffer of a frame is returned; any other is left as it is (R129). -/
theorem retire_cases (c : Claim) (buffer : Option BufferNo) :
    ((∀ b l, buffer = some b → c.st.bufferStateAt b ≠ .retiring l) ∧ c.retire buffer = c) ∨
    ∃ b l, buffer = some b ∧ c.st.bufferStateAt b = .retiring l ∧ c.retire buffer = c.returnBuffer b := by
  cases buffer with
  | none => exact .inl ⟨nofun, rfl⟩
  | some b =>
    cases hb : c.st.bufferStateAt b with
    | retiring l => exact .inr ⟨b, l, rfl, hb, by simp [Claim.retire, hb]⟩
    | free | host | outbound | inbound =>
      refine .inl ⟨fun x l hx => ?_, by simp [Claim.retire, hb]⟩
      cases hx
      rw [hb]
      nofun

/-! ### The record after a RECEIPT -/

/-- An in-range RECEIPT drops entries from the send queue and keeps what other laws than that of the tags look at (R74 to R77). -/
theorem receipted_facts {a : Assoc} (next : Tag) (credit : Nat) (hs : a.state.sends = true) :
    ∃ b, a.receipted next credit = b ∧ b.state.isLive = true ∧ b.key = a.key ∧ b.origin = a.origin ∧
      b.params = a.params ∧ b.grant = a.grant ∧ b.reasons = a.reasons ∧ b.inboundQueue = a.inboundQueue ∧
      b.sendQueue = a.sendQueue.drop (tagDistance a.sendBase next) := by
  have hlive : a.state.isLive = true := by
    obtain h | h := (sends_iff a.state).1 hs <;> rw [h] <;> rfl
  have hsettled (x : Bool) : (a.advance next credit).Clerical ((a.advance next credit).settle x) := clerical_settle _ x
  refine ⟨_, rfl, ?_⟩
  unfold Assoc.receipted
  dsimp only
  rw [hsettled]
  split
  · exact ⟨rfl, rfl, rfl, rfl, rfl, rfl, rfl, rfl⟩
  · exact ⟨hlive, rfl, rfl, rfl, rfl, rfl, rfl, rfl⟩

/-! ### Counts over all slots -/

/-- A sum over a list without repetitions, when the summand changes at one member. -/
theorem sum_map_change {α : Type} {f g : α → Nat} {xs : List α} (hn : xs.Nodup) {x : α} (hx : x ∈ xs)
    (h : ∀ y, y ≠ x → g y = f y) : (xs.map g).sum + f x = (xs.map f).sum + g x := by
  induction xs with
  | nil => cases hx
  | cons y rest ih =>
    obtain ⟨hy, hrest⟩ := List.nodup_cons.1 hn
    simp only [List.map_cons, List.sum_cons]
    by_cases hyx : y = x
    · subst hyx
      have hsame : rest.map g = rest.map f := List.map_congr_left fun z hz => h z fun e => hy (e ▸ hz)
      rw [hsame]
      omega
    · have := ih hrest ((List.mem_cons.1 hx).resolve_left (Ne.symm hyx))
      have := h y hyx
      omega

theorem sum_slots_change {f g : Slot → Nat} (i : Slot) (h : ∀ j, j ≠ i → g j = f j) :
    (allSlots.map g).sum + f i = (allSlots.map f).sum + g i :=
  sum_map_change allSlots_nodup (mem_allSlots i) h

theorem le_sum_slots (f : Slot → Nat) (i : Slot) : f i ≤ (allSlots.map f).sum :=
  List.le_sum_of_mem (List.mem_map_of_mem (mem_allSlots i))

end Sys2Proof.Machine
end

section
/-! The credit law (R130): the reserved count is the sum of all G and is backed by the free list. -/

namespace Sys2Proof.Machine

/-- G of the association in a slot. -/
def State.grantAt (s : State) (i : Slot) : Nat := (s.assocAt i).elim 0 (·.grant)

theorem grantSum_eq (s : State) : s.grantSum = (allSlots.map s.grantAt).sum := rfl

theorem grantAt_of_some {s : State} {i : Slot} {a : Assoc} (h : s.assocAt i = some a) : s.grantAt i = a.grant := by
  simp [State.grantAt, h]

theorem grantAt_of_none {s : State} {i : Slot} (h : s.assocAt i = none) : s.grantAt i = 0 := by
  simp [State.grantAt, h]

theorem grantAt_congr {s t : State} {i : Slot} (h : t.assocAt i = s.assocAt i) : t.grantAt i = s.grantAt i := by
  rw [State.grantAt, State.grantAt, h]

section CreditBacked

variable {s t : State}

/-- Of a backed state no association has more credit than the reserved count. -/
theorem State.CreditBacked.grant_le (hs : s.CreditBacked) {i : Slot} {a : Assoc} (ha : s.assocAt i = some a) :
    a.grant ≤ s.pool.reserved := by
  rw [hs.reserved, grantSum_eq, ← grantAt_of_some ha]
  exact le_sum_slots s.grantAt i

/-- One slot changes; the reserved count moves with its G. -/
theorem State.CreditBacked.change (hs : s.CreditBacked) (i : Slot) (hother : ∀ j, j ≠ i → t.assocAt j = s.assocAt j)
    (hres : t.pool.reserved + s.grantAt i = s.pool.reserved + t.grantAt i)
    (hback : t.pool.reserved ≤ t.pool.freeList.length)
    (hend : ∀ b, t.assocAt i = some b → b.state.isLive = false → b.grant = 0) : t.CreditBacked := by
  refine ⟨?_, hback, fun j b hb hl => ?_⟩
  · have hsum := sum_slots_change (f := s.grantAt) (g := t.grantAt) i fun j hj => grantAt_congr (hother j hj)
    rw [grantSum_eq]
    have := hs.reserved
    rw [grantSum_eq] at this
    omega
  · by_cases hj : j = i
    · subst hj
      exact hend b hb hl
    · exact hs.ended j b (hother j hj ▸ hb) hl

/-- A record is replaced by one with the same G, and the free list does not get shorter than the reserved count. -/
theorem State.CreditBacked.keepGrant (hs : s.CreditBacked) {i : Slot} {a b : Assoc} (ha : s.assocAt i = some a)
    (hb : t.assocAt i = some b) (hother : ∀ j, j ≠ i → t.assocAt j = s.assocAt j) (hgrant : b.grant = a.grant)
    (hlive : b.state.isLive = a.state.isLive) (hres : t.pool.reserved = s.pool.reserved)
    (hback : s.pool.reserved ≤ t.pool.freeList.length) : t.CreditBacked := by
  refine hs.change i hother (by rw [grantAt_of_some ha, grantAt_of_some hb, hgrant, hres]) (hres ▸ hback) fun x hx hl => ?_
  rw [hb] at hx
  cases hx
  rw [hgrant]
  exact hs.ended i a ha (hlive.symm.trans hl)

/-- Slots and reserved count stay. -/
theorem State.CreditBacked.keep (hs : s.CreditBacked) (hslots : ∀ j, t.assocAt j = s.assocAt j)
    (hres : t.pool.reserved = s.pool.reserved) (hback : s.pool.reserved ≤ t.pool.freeList.length) : t.CreditBacked :=
  hs.change 0 (fun j _ => hslots j) (by rw [grantAt_congr (hslots 0), hres]) (hres ▸ hback)
    fun b hb => hs.ended 0 b (hslots 0 ▸ hb)

/-- An empty table with nothing reserved. -/
theorem creditBacked_of_empty (hslots : ∀ j, t.assocAt j = none) (hres : t.pool.reserved = 0) : t.CreditBacked := by
  refine ⟨?_, by rw [hres]; exact Nat.zero_le _, fun j b hb => by rw [hslots] at hb; cases hb⟩
  have hzero : allSlots.map t.grantAt = allSlots.map fun _ => 0 :=
    List.map_congr_left fun j _ => grantAt_of_none (hslots j)
  rw [hres, grantSum_eq, hzero]
  simp

theorem creditBacked_setAssoc (hs : s.CreditBacked) {i : Slot} {a b : Assoc} (ha : s.assocAt i = some a)
    (hgrant : b.grant = a.grant) (hlive : b.state.isLive = a.state.isLive) : (s.setAssoc i b).CreditBacked :=
  hs.keepGrant ha (assocAt_setAssoc_self s i b) (fun _ hj => assocAt_setAssoc_of_ne s hj b) hgrant hlive rfl hs.backed

theorem creditBacked_setPool (hs : s.CreditBacked) {p : Pool} (hres : p.reserved = s.pool.reserved)
    (hback : s.pool.reserved ≤ p.freeList.length) : (s.setPool p).CreditBacked := hs.keep (fun _ => rfl) hres hback

theorem creditBacked_raiseGrant (hs : s.CreditBacked) {i : Slot} {a : Assoc} {n : Nat} (ha : s.assocAt i = some a)
    (hc : a.state.credits = true) (hn : n ≤ s.available) : (s.raiseGrant i a n).CreditBacked := by
  have hgrant : (a.raised n).grant = a.grant + n := by rw [raised_eq]
  have hstate : (a.raised n).state = a.state := by rw [raised_eq]
  refine hs.change i (fun j hj => assocAt_raiseGrant_of_ne s i a n hj) ?_ ?_ fun b hb hl => ?_
  · rw [grantAt_of_some ha, grantAt_of_some (assocAt_raiseGrant_self s i a n), hgrant, pool_raiseGrant]
    dsimp only
    omega
  · have := hs.backed
    unfold State.available at hn
    rw [pool_raiseGrant]
    dsimp only
    omega
  · rw [assocAt_raiseGrant_self] at hb
    cases hb
    rw [hstate] at hl
    rw [credits_of_not_live hl] at hc
    cases hc

theorem creditBacked_endAssoc {c : Claim} (hs : c.st.CreditBacked) {i : Slot} {a : Assoc} (cause : EndCause)
    (ha : c.st.assocAt i = some a) (hl : a.state.isLive = true) : (c.endAssoc i cause).st.CreditBacked := by
  have hself := assocAt_endAssoc_self cause ha hl
  have hpool : (c.endAssoc i cause).st.pool.reserved = c.st.pool.reserved - a.grant ∧
      c.st.pool.freeList.length ≤ (c.endAssoc i cause).st.pool.freeList.length := by
    rw [endAssoc_of_live cause ha hl, update_st, pool_endRecord, releaseAll_st]
    simp
  obtain ⟨hres, hfree⟩ := hpool
  have hle := hs.grant_le ha
  have hback := hs.backed
  refine hs.change i (fun j hj => assocAt_endAssoc_of_ne c i cause hj) ?_ (by omega) fun b hb _ => ?_
  · rw [grantAt_of_some ha, grantAt_of_some hself, hres]
    change c.st.pool.reserved - a.grant + a.grant = c.st.pool.reserved + 0
    omega
  · rw [hself] at hb
    cases hb
    rfl

/-- A record with no G comes into a FREE slot. -/
theorem creditBacked_create (hs : s.CreditBacked) {i : Slot} {a : Assoc} (hfree : s.assocAt i = none)
    (hself : t.assocAt i = some a) (hother : ∀ j, j ≠ i → t.assocAt j = s.assocAt j) (hpool : t.pool = s.pool)
    (hg : a.grant = 0) : t.CreditBacked := by
  refine hs.change i hother (by rw [grantAt_of_none hfree, grantAt_of_some hself, hg, hpool]) ?_ fun b hb _ => ?_
  · rw [hpool]
    exact hs.backed
  · rw [hself] at hb
    cases hb
    exact hg

end CreditBacked

theorem creditBacked_reasonBlind : ReasonBlind State.CreditBacked where
  attention := fun _ hs => ⟨hs.reserved, hs.backed, hs.ended⟩
  slot := fun _ hs ha => creditBacked_setAssoc hs ha rfl rfl
  line := fun _ _ hs => hs.keep (fun j => by simp) (by simp) (by simpa using hs.backed)

theorem creditBacked_law : Law State.CreditBacked :=
  CoreLaw.law
    { frame := fun _ _ _ _ hs => ⟨hs.reserved, hs.backed, hs.ended⟩
      settings := fun _ _ _ hs => ⟨hs.reserved, hs.backed, hs.ended⟩
      attend := fun t hs _ _ => creditBacked_reasonBlind.attention t hs
      takeNotice := creditBacked_reasonBlind.takeNotice
      control := fun _ hs _ => ⟨hs.reserved, hs.backed, hs.ended⟩
      revise := fun hs ha hab => creditBacked_setAssoc hs ha hab.grant hab.live
      reviseLine := fun hs _ => hs.keep (fun j => by simp) (by simp) (by simpa using hs.backed)
      raiseSlot := creditBacked_reasonBlind.raiseSlot
      raiseLine := creditBacked_reasonBlind.raiseLine
      raiseGrant := fun hs ha hc hn _ => creditBacked_raiseGrant hs ha hc hn
      endAssoc := fun cause hs ha hl => creditBacked_endAssoc hs cause ha hl
      opening := fun {s} {i} _ _ hs _ _ hfree _ => creditBacked_create hs hfree (assocAt_create_self s i _)
        (fun _ hj => assocAt_create_of_ne s i hj _) rfl rfl
      admission := fun {s} {l} {f} {limit} {credit} {n} {i} hs _ _ hfree _ => by
        obtain ⟨a, he, -, -, -, -, hg, -⟩ := admittedAssoc_facts l f limit credit n (s.listenAt n)
        exact creditBacked_create hs hfree (he ▸ assocAt_admitted_self s l f limit credit n i)
          (fun _ hj => assocAt_admitted_of_ne s i l f limit credit n hj) rfl hg
      submit := fun {s} {i} {a} {b} n hs ha _ _ _ => by
        have hsub : (a.submitted b n).grant = a.grant ∧ (a.submitted b n).state = a.state := by
          unfold Assoc.submitted
          dsimp only
          split <;> exact ⟨rfl, rfl⟩
        exact creditBacked_setAssoc (s := s.setPool (s.pool.setState b .outbound)) (creditBacked_setPool hs rfl hs.backed) ha
          hsub.1 (by rw [hsub.2])
      takeMessage := fun {s} {i} {a} {e} {rest} hs ha _ =>
        creditBacked_setPool (s := s.setAssoc i { a with inboundQueue := rest }) (creditBacked_setAssoc hs ha rfl rfl) rfl
          hs.backed
      allocate := fun {s} {b} {rest} hs hfree hroom => hs.keep (fun _ => rfl) rfl (by
        rw [hfree, List.length_cons] at hroom
        exact Nat.le_of_lt_succ hroom)
      giveBuffer := fun {s} {b} hs _ => hs.keep (fun _ => rfl) rfl (by
        have := hs.backed
        simp
        omega)
      release := fun {c} {i} {a} hs ha hl => by
        have hpool : (c.release i a).st.pool.reserved = c.st.pool.reserved ∧
            c.st.pool.freeList.length ≤ (c.release i a).st.pool.freeList.length := by
          rw [release_st]
          refine ⟨by rw [setSlotRec_pool, setAttention_pool, setPool_pool, returnAll_frame]; rfl, ?_⟩
          simp [freeList_returnAll]
        have hback := hs.backed
        refine hs.change i (fun j hj => assocAt_release_of_ne i c a hj) ?_ (by omega) fun b hb => ?_
        · rw [grantAt_of_some ha, grantAt_of_none (assocAt_release_self i c a), hs.ended i a ha hl, hpool.1]
        · rw [assocAt_release_self] at hb
          cases hb
      receipted := fun {c} {i} {a} {next} {credit} hs ha hsend _ _ => by
        obtain ⟨b, he, hlive, -, -, -, hg, -⟩ := receipted_facts next credit hsend
        have hlive_a : a.state.isLive = true := by
          obtain h | h := (sends_iff a.state).1 hsend <;> rw [h] <;> rfl
        rw [he, releaseAll_st]
        refine creditBacked_setAssoc ?_ ha hg (hlive.trans hlive_a.symm)
        exact creditBacked_setPool hs rfl (le_trans hs.backed (by simp))
      send := fun _ _ hs _ _ _ _ => hs.keep (fun j => by simp) (by simp) (by simpa using hs.backed)
      frameEnd := fun {s} {l} {r} out hs _ => by
        have hretired : ((Claim.begin s).retire r.buffer).st.CreditBacked := by
          obtain ⟨-, he⟩ | ⟨b, m, -, -, he⟩ := retire_cases (Claim.begin s) r.buffer
          · rwa [he]
          · rw [he, returnBuffer_st]
            have hback := hs.backed
            exact hs.keep (fun _ => rfl) rfl (by simp; omega)
        exact hretired.keep (fun j => by simp) (by simp) (by simpa using hretired.backed)
      listenSet := fun _ hs _ => ⟨hs.reserved, hs.backed, hs.ended⟩
      clearAll := fun _ _ => creditBacked_of_empty (assocAt_clearAll _) rfl }
    (fun hs ha hc hn => creditBacked_raiseGrant hs ha hc hn)
    (fun {s} {l} {f} {limit} {credit} {n} {i} hs hfree => by
        obtain ⟨a, he, -, -, -, -, hg, -⟩ := admittedAssoc_facts l f limit credit n (s.listenAt n)
        exact creditBacked_create hs hfree (he ▸ assocAt_admitted_self s l f limit credit n i)
          (fun _ hj => assocAt_admitted_of_ne s i l f limit credit n hj) rfl hg)
    (fun hs _ _ => hs.keep (fun j => by simp) (by simp) (by simpa using hs.backed))

theorem creditBacked_writeLaw : WriteLaw State.CreditBacked where
  deviceReset := fun _ _ => creditBacked_of_empty (fun j => assocAt_deviceReset _ j _) rfl
  acceptData := fun {s} {i} {a} {payload} {b} {rest} hs ha _ hg _ hfree => by
    have haccepted : (a.acceptedData b payload.length).grant = a.grant - 1 ∧
        (a.acceptedData b payload.length).state = a.state := by
      unfold Assoc.acceptedData
      dsimp only
      split
      · exact ⟨rfl, rfl⟩
      · split <;> exact ⟨rfl, rfl⟩
    obtain ⟨hgrant, hstate⟩ := haccepted
    have hle := hs.grant_le ha
    have hback := hs.backed
    rw [hfree, List.length_cons] at hback
    refine hs.change i (fun j hj => assocAt_setAssoc_of_ne _ hj _) ?_ ?_ fun x hx hl => ?_
    · rw [grantAt_of_some ha, grantAt_of_some (assocAt_setAssoc_self _ i _), hgrant]
      change s.pool.reserved - 1 + a.grant = s.pool.reserved + (a.grant - 1)
      omega
    · change s.pool.reserved - 1 ≤ rest.length
      omega
    · rw [assocAt_setAssoc_self] at hx
      cases hx
      rw [hgrant, hs.ended i a ha (hstate ▸ hl)]
  writeWindow := fun b k lanes data hs => creditBacked_setPool hs rfl hs.backed

/-- Settles O7: the credit law is a law, of the writing operations too. -/
theorem creditStaysBacked : Obligations.CreditStaysBacked :=
  fun _ _ hs ht => creditBacked_law.step creditBacked_writeLaw
    (fun _ _ hs => ⟨hs.reserved, hs.backed, hs.ended⟩) hs ht

/-! ### Backed states never stop -/

/-- An association with credit finds a buffer in the free list (R130). -/
theorem State.CreditBacked.freeList_ne_nil {s : State} (hs : s.CreditBacked) {i : Slot} {a : Assoc}
    (ha : s.assocAt i = some a) (hg : 0 < a.grant) : s.pool.freeList ≠ [] := by
  intro hnil
  have hle := hs.grant_le ha
  have hback := hs.backed
  rw [hnil, List.length_nil] at hback
  omega

theorem acceptData_isSome {c : Claim} {i : Slot} {a : Assoc} (payload : List Byte) (h : c.st.pool.freeList ≠ []) :
    ∃ t, c.acceptData i a payload = some t := by
  unfold Claim.acceptData
  split
  · rename_i hnil
    exact absurd hnil h
  · exact ⟨_, rfl⟩

theorem dataArrival_isSome {c : Claim} (hs : c.st.CreditBacked) {i : Slot} {a : Assoc} (ha : c.st.assocAt i = some a)
    (tag : Tag) (payload : List Byte) : ∃ t, c.dataArrival i a tag payload = some t := by
  unfold Claim.dataArrival
  split
  · exact ⟨_, rfl⟩
  · split
    · rename_i hclass
      exact acceptData_isSome payload (hs.freeList_ne_nil ha (dataClass_eq_expected hclass).2)
    all_goals exact ⟨_, rfl⟩

theorem dispatch_isSome {c : Claim} (hs : c.st.CreditBacked) (l : Line) (f : Frame) : ∃ t, c.dispatch l f = some t := by
  unfold Claim.dispatch
  split
  · exact ⟨_, rfl⟩
  · split
    · exact ⟨_, rfl⟩
    · rename_i ha
      split
      · unfold Claim.sameEpoch
        split
        case h_8 | h_9 | h_10 => exact dataArrival_isSome hs ha _ _
        all_goals exact ⟨_, rfl⟩
      · exact ⟨_, rfl⟩

/-- RECEIVE_DISPATCH answers a next state where the credit is backed. -/
theorem receiveDispatch_answers {s : State} (hs : s.CreditBacked) (l : Line) : ∃ t, execReceiveDispatch l s = .next t := by
  have hpop : (s.popArrived l).CreditBacked := hs.keep (fun j => by simp [State.popArrived])
    (by simp [State.popArrived]) (by simpa [State.popArrived] using hs.backed)
  have hframe (d : Delivered) : ∃ t, (s.popArrived l).dispatchFrame l d = some t := by
    unfold State.dispatchFrame
    split
    · exact ⟨_, rfl⟩
    · exact ⟨_, rfl⟩
    · rename_i f _
      obtain ⟨c, hc⟩ := dispatch_isSome (c := Claim.begin (s.popArrived l)) hpop l f
      rw [hc]
      exact ⟨_, rfl⟩
  unfold execReceiveDispatch
  split
  · exact ⟨_, rfl⟩
  · rename_i d _ _
    obtain ⟨t, ht⟩ := hframe d
    rw [ht]
    exact ⟨t, rfl⟩

/-- Settles O15: only RECEIVE_DISPATCH could fault, at an acceptance without a free buffer. -/
theorem backedStatesNeverStop : Obligations.BackedStatesNeverStop := by
  intro s hs
  unfold step
  split
  · exact ⟨_, rfl⟩
  · rename_i c rest _
    have hrest : ({ s with pending := rest } : State).CreditBacked := ⟨hs.reserved, hs.backed, hs.ended⟩
    cases c with
    | receiveDispatch l => exact receiveDispatch_answers hrest l
    | _ => exact ⟨_, rfl⟩

end Sys2Proof.Machine
end

section
/-! The law of the address map (R18, R19): one entry for each live association, no key twice. -/

namespace Sys2Proof.Machine

/-- Slot `i` holds a live association of key `k`. -/
def State.Owns (s : State) (i : Slot) (k : Key) : Prop :=
  ∃ a, s.assocAt i = some a ∧ a.state.isLive = true ∧ a.key = k

section Owns

variable {s t : State} {i : Slot}

theorem owns_congr {u : State} {j : Slot} (h : t.assocAt j = u.assocAt j) (k : Key) : t.Owns j k ↔ u.Owns j k := by
  rw [State.Owns, State.Owns, h]

theorem owns_of_some {a : Assoc} (h : s.assocAt i = some a) (k : Key) :
    s.Owns i k ↔ a.state.isLive = true ∧ a.key = k := by
  constructor
  · rintro ⟨b, hb, hl⟩
    rw [h] at hb
    cases hb
    exact hl
  · exact fun hl => ⟨a, h, hl⟩

theorem not_owns_of_none (h : s.assocAt i = none) (k : Key) : ¬ s.Owns i k := by
  rintro ⟨b, hb, -⟩
  rw [h] at hb
  cases hb

/-- A record replaced by one of the same key and liveness. -/
theorem owns_replace {a b : Assoc} (ha : s.assocAt i = some a) (hb : t.assocAt i = some b)
    (hother : ∀ j, j ≠ i → t.assocAt j = s.assocAt j) (hkey : b.key = a.key)
    (hlive : b.state.isLive = a.state.isLive) (j : Slot) (k : Key) : t.Owns j k ↔ s.Owns j k := by
  by_cases hj : j = i
  · rw [hj, owns_of_some hb, owns_of_some ha, hkey, hlive]
  · exact owns_congr (hother j hj) k

end Owns

theorem lookup_eq_none_iff {s : State} {k : Key} : s.lookup k = none ↔ ∀ e ∈ s.addressMap, e.key ≠ k := by
  rw [State.lookup, Option.map_eq_none_iff, List.find?_eq_none]
  simp

theorem mem_of_lookup {s : State} {k : Key} {i : Slot} (h : s.lookup k = some i) :
    { key := k, slot := i } ∈ s.addressMap := by
  obtain ⟨e, he, rfl⟩ := Option.map_eq_some_iff.1 h
  have hkey : e.key = k := by simpa using List.find?_some he
  have hmem := List.mem_of_find?_eq_some he
  rwa [← hkey]

section KeysMapped

variable {s t : State}

theorem State.KeysMapped.owns (hs : s.KeysMapped) (k : Key) (i : Slot) : { key := k, slot := i } ∈ s.addressMap ↔ s.Owns i k :=
  hs.mapped k i

theorem State.KeysMapped.keep (hs : s.KeysMapped) (hmap : t.addressMap = s.addressMap)
    (hown : ∀ i k, t.Owns i k ↔ s.Owns i k) : t.KeysMapped :=
  ⟨fun k i => by rw [hmap, hs.owns]; exact (hown i k).symm, by rw [hmap]; exact hs.once⟩

/-- A record is replaced by one of the same key and liveness. -/
theorem State.KeysMapped.replace (hs : s.KeysMapped) {i : Slot} {a b : Assoc} (ha : s.assocAt i = some a)
    (hb : t.assocAt i = some b) (hother : ∀ j, j ≠ i → t.assocAt j = s.assocAt j) (hkey : b.key = a.key)
    (hlive : b.state.isLive = a.state.isLive) (hmap : t.addressMap = s.addressMap) : t.KeysMapped :=
  hs.keep hmap (owns_replace ha hb hother hkey hlive)

theorem State.KeysMapped.same (hs : s.KeysMapped) (hmap : t.addressMap = s.addressMap)
    (hslots : ∀ j, t.assocAt j = s.assocAt j) : t.KeysMapped :=
  hs.keep hmap fun i k => owns_congr (hslots i) k

theorem keysMapped_setAssoc (hs : s.KeysMapped) {i : Slot} {a b : Assoc} (ha : s.assocAt i = some a)
    (hkey : b.key = a.key) (hlive : b.state.isLive = a.state.isLive) : (s.setAssoc i b).KeysMapped :=
  hs.replace ha (assocAt_setAssoc_self s i b) (fun _ hj => assocAt_setAssoc_of_ne s hj b) hkey hlive rfl

/-- Two slots do not own one key (R18). -/
theorem State.KeysMapped.owner_unique (hs : s.KeysMapped) {i j : Slot} {k : Key} (hi : s.Owns i k) (hj : s.Owns j k) :
    i = j := by
  have hmi := (hs.owns k i).2 hi
  have hmj := (hs.owns k j).2 hj
  have := List.inj_on_of_nodup_map hs.once hmi hmj rfl
  injection this

theorem keysMapped_endAssoc {c : Claim} (hs : c.st.KeysMapped) {i : Slot} {a : Assoc} (cause : EndCause)
    (ha : c.st.assocAt i = some a) (hl : a.state.isLive = true) : (c.endAssoc i cause).st.KeysMapped := by
  have hmap : (c.endAssoc i cause).st.addressMap = c.st.addressMap.filter fun e => e.key ≠ a.key := by
    rw [endAssoc_of_live cause ha hl, update_st, addressMap_endRecord, releaseAll_st, setPool_addressMap]
  have hself := assocAt_endAssoc_self cause ha hl
  have howner : c.st.Owns i a.key := ⟨a, ha, hl, rfl⟩
  refine ⟨fun k j => ?_, ?_⟩
  · rw [hmap, List.mem_filter, hs.owns]
    change _ ↔ (c.endAssoc i cause).st.Owns j k
    by_cases hj : j = i
    · subst hj
      rw [owns_of_some hself, owns_of_some ha]
      simp only [decide_eq_true_eq]
      exact ⟨fun ⟨⟨_, hk⟩, hne⟩ => absurd hk.symm hne, fun ⟨hdead, _⟩ => by cases hdead⟩
    · rw [owns_congr (assocAt_endAssoc_of_ne c i cause hj)]
      simp only [decide_eq_true_eq, and_iff_left_iff_imp]
      rintro hown rfl
      exact hj (hs.owner_unique hown howner)
  · rw [hmap]
    exact hs.once.sublist (List.filter_sublist.map _)

/-- A live association comes into a FREE slot with a key that no entry has. -/
theorem keysMapped_create (hs : s.KeysMapped) {i : Slot} {a : Assoc} (hfree : s.assocAt i = none)
    (hself : t.assocAt i = some a) (hother : ∀ j, j ≠ i → t.assocAt j = s.assocAt j) (hlive : a.state.isLive = true)
    (hmap : t.addressMap = s.addressMap ++ [{ key := a.key, slot := i }]) (hnew : s.lookup a.key = none) :
    t.KeysMapped := by
  have hfresh := lookup_eq_none_iff.1 hnew
  refine ⟨fun k j => ?_, ?_⟩
  · rw [hmap, List.mem_append, List.mem_singleton, hs.owns]
    change _ ↔ t.Owns j k
    by_cases hj : j = i
    · subst hj
      rw [owns_of_some hself]
      simp only [hlive, true_and, MapEntry.mk.injEq, and_true]
      exact ⟨fun h => (h.resolve_left (not_owns_of_none hfree k)).symm, fun h => .inr h.symm⟩
    · rw [owns_congr (hother j hj)]
      simp [hj]
  · rw [hmap, List.map_append, List.nodup_append]
    refine ⟨hs.once, List.nodup_singleton _, fun k hk x hx => ?_⟩
    obtain ⟨e, he, rfl⟩ := List.mem_map.1 hk
    rw [List.map_singleton, List.mem_singleton] at hx
    exact hx ▸ hfresh e he

end KeysMapped

theorem keysMapped_reasonBlind : ReasonBlind State.KeysMapped where
  attention := fun _ hs => ⟨hs.mapped, hs.once⟩
  slot := fun _ hs ha => keysMapped_setAssoc hs ha rfl rfl
  line := fun _ _ hs => hs.same (by simp) fun j => by simp

theorem keysMapped_admitted {s : State} (hs : s.KeysMapped) {l : Line} {f : Frame} {limit credit : Nat} {n : ListenNo}
    {i : Slot} (hfree : s.assocAt i = none) (hnew : s.lookup (f.key l) = none) :
    (s.admitted l f limit credit n i).KeysMapped := by
  obtain ⟨a, he, hlive, hkey, -⟩ := admittedAssoc_facts l f limit credit n (s.listenAt n)
  refine keysMapped_create hs hfree (he ▸ assocAt_admitted_self s l f limit credit n i)
    (fun _ hj => assocAt_admitted_of_ne s i l f limit credit n hj) hlive ?_ (hkey ▸ hnew)
  rw [← he]
  rfl

theorem keysMapped_raiseGrant {s : State} (hs : s.KeysMapped) {i : Slot} {a : Assoc} {n : Nat}
    (ha : s.assocAt i = some a) : (s.raiseGrant i a n).KeysMapped := by
  have hraised : (a.raised n).key = a.key ∧ (a.raised n).state = a.state := by rw [raised_eq]; exact ⟨rfl, rfl⟩
  exact hs.replace ha (assocAt_raiseGrant_self s i a n) (fun _ hj => assocAt_raiseGrant_of_ne s i a n hj) hraised.1
    (by rw [hraised.2]) rfl

theorem submitted_facts (a : Assoc) (b : BufferNo) (n : Nat) : ∃ x, a.submitted b n = { a with
    sendQueue := a.sendQueue ++ [{ tag := a.submitTag, buffer := b, length := n }],
    submitTag := a.submitTag + 1, stateTimer := x } := by
  unfold Assoc.submitted
  dsimp only
  split <;> exact ⟨_, rfl⟩

theorem acceptedData_facts (a : Assoc) (b : BufferNo) (n : Nat) : ∃ x y, a.acceptedData b n = { a with
    inboundQueue := a.inboundQueue ++ [{ buffer := b, length := n }], expected := a.expected + 1,
    grant := a.grant - 1, pendingControl := x, receiptTimer := y } := by
  unfold Assoc.acceptedData
  dsimp only
  split
  · exact ⟨_, _, rfl⟩
  · split <;> exact ⟨_, _, rfl⟩

theorem isLive_of_sends {st : AssocState} (h : st.sends = true) : st.isLive = true := by
  cases st <;> simp_all [AssocState.sends, AssocState.isLive]

theorem keysMapped_coreLaw : CoreLaw State.KeysMapped where
  frame := fun _ _ _ _ hs => ⟨hs.mapped, hs.once⟩
  settings := fun _ _ _ hs => ⟨hs.mapped, hs.once⟩
  attend := fun t hs _ _ => keysMapped_reasonBlind.attention t hs
  takeNotice := keysMapped_reasonBlind.takeNotice
  control := fun _ hs _ => ⟨hs.mapped, hs.once⟩
  revise := fun hs ha hab => keysMapped_setAssoc hs ha hab.key hab.live
  reviseLine := fun hs _ => hs.same (by simp) fun j => by simp
  raiseSlot := keysMapped_reasonBlind.raiseSlot
  raiseLine := keysMapped_reasonBlind.raiseLine
  raiseGrant := fun hs ha _ _ _ => keysMapped_raiseGrant hs ha
  endAssoc := fun cause hs ha hl => keysMapped_endAssoc hs cause ha hl
  opening := fun {s} {i} k p hs _ hnew hfree _ => keysMapped_create hs hfree (assocAt_create_self s i _)
    (fun _ hj => assocAt_create_of_ne s i hj _) rfl rfl hnew
  admission := fun {s} {l} {f} {limit} {credit} {n} {i} hs _ hnone hfree _ => by
    refine keysMapped_admitted hs hfree ?_
    cases h : s.lookup (f.key l) with
    | none => rfl
    | some j =>
      obtain ⟨a, ha, -⟩ := (hs.owns _ j).1 (mem_of_lookup h)
      rw [hnone j h] at ha
      cases ha
  submit := fun {s} {i} {a} {b} n hs ha _ _ _ => by
    obtain ⟨x, he⟩ := submitted_facts a b n
    rw [he]
    exact hs.replace ha (assocAt_setAssoc_self _ i _) (fun _ hj => assocAt_setAssoc_of_ne _ hj _) rfl rfl rfl
  takeMessage := fun {s} {i} {a} {e} {rest} hs ha _ =>
    (keysMapped_setAssoc (b := { a with inboundQueue := rest }) hs ha rfl rfl).same rfl fun _ => rfl
  allocate := fun hs _ _ => hs.same rfl fun _ => rfl
  giveBuffer := fun hs _ => hs.same rfl fun _ => rfl
  release := fun {c} {i} {a} hs ha hl => hs.keep (by rw [release_st]; rfl) fun j k => by
    by_cases hj : j = i
    · rw [hj, owns_of_some ha, hl]
      exact iff_of_false (not_owns_of_none (assocAt_release_self i c a) k) (by simp)
    · exact owns_congr (assocAt_release_of_ne i c a hj) k
  receipted := fun {c} {i} {a} {next} {credit} hs ha hsend _ _ => by
    obtain ⟨b, he, hlive, hkey, -⟩ := receipted_facts next credit hsend
    rw [he, releaseAll_st]
    exact (keysMapped_setAssoc hs ha hkey (hlive.trans (isLive_of_sends hsend).symm)).same rfl fun _ => rfl
  send := fun _ _ hs _ _ _ _ => hs.same (by simp) fun j => by simp
  frameEnd := fun out hs _ => by
    rw [update_st, retire_frame]
    exact hs.same (by simp) fun j => by simp
  listenSet := fun _ hs _ => ⟨hs.mapped, hs.once⟩
  clearAll := fun {s} _ _ =>
    ⟨fun k i => iff_of_false List.not_mem_nil (not_owns_of_none (assocAt_clearAll s i) k), List.nodup_nil⟩

/-- After the entry to ENDED of a key's owner no entry has the key, so the restart can give it a new slot (R62). -/
theorem lookup_endAssoc {c : Claim} (hs : c.st.KeysMapped) {k : Key} {j : Slot} (hat : c.st.lookup k = some j)
    (cause : EndCause) : (c.endAssoc j cause).st.lookup k = none := by
  obtain ⟨b, hb, hl, rfl⟩ := (hs.owns k j).1 (mem_of_lookup hat)
  rw [lookup_eq_none_iff, endAssoc_of_live cause hb hl, update_st, addressMap_endRecord]
  intro e he
  simpa using (List.mem_filter.1 he).2

theorem keysMapped_law : Law State.KeysMapped :=
  { keysMapped_coreLaw with
    restart := fun hs hat _ _ hfree _ =>
      keysMapped_admitted (keysMapped_coreLaw.anyEnd _ _ hs) hfree (lookup_endAssoc hs hat _)
    accept := keysMapped_coreLaw.accept_of fun hs ha _ _ => keysMapped_raiseGrant hs ha
    carrierLoss := fun hs _ => (keysMapped_coreLaw.lineLoss_of (fun hs _ _ => hs.same (by simp) fun j => by simp) _ hs).1
    goDown := fun hs _ => (keysMapped_coreLaw.lineLoss_of (fun hs _ _ => hs.same (by simp) fun j => by simp) _ hs).2.1
    disableLine := fun hs _ =>
      (keysMapped_coreLaw.lineLoss_of (fun hs _ _ => hs.same (by simp) fun j => by simp) _ hs).2.2 }

theorem keysMapped_writeLaw : WriteLaw State.KeysMapped where
  deviceReset := fun {s} b _ =>
    ⟨fun k i => iff_of_false List.not_mem_nil (not_owns_of_none (assocAt_deviceReset s i b) k), List.nodup_nil⟩
  acceptData := fun {s} {i} {a} {payload} {b} {rest} hs ha _ _ _ _ => by
    obtain ⟨x, y, he⟩ := acceptedData_facts a b payload.length
    rw [he]
    exact hs.replace ha (assocAt_setAssoc_self _ i _) (fun _ hj => assocAt_setAssoc_of_ne _ hj _) rfl rfl rfl
  writeWindow := fun _ _ _ _ hs => hs.same rfl fun _ => rfl

/-- Settles O9: the address map's law is a law, at a restart because the old association's entry goes first. -/
theorem keysStayMapped : Obligations.KeysStayMapped :=
  fun _ _ hs ht => keysMapped_law.step keysMapped_writeLaw (fun _ _ hs => ⟨hs.mapped, hs.once⟩) hs ht

end Sys2Proof.Machine
end

section
/-! The law of the admitted counts (R53): each is the number of live associations that its listen entry let in. -/

namespace Sys2Proof.Machine

/-- A filtered list is as long as the sum of its test over the list. -/
theorem length_filter_eq_sum {α : Type} (p : α → Bool) (xs : List α) :
    (xs.filter p).length = (xs.map fun x => (p x).toNat).sum := by
  induction xs with
  | nil => rfl
  | cons x rest ih => cases h : p x <;> simp [h, ih, Nat.add_comm]

/-- 1 for a slot whose live association the entry let in, else 0. -/
def State.countAt (s : State) (n : ListenNo) (i : Slot) : Nat := (s.liveFrom n i).toNat

theorem admittedCounted_iff (s : State) :
    s.AdmittedCounted ↔ ∀ n, (s.listenAt n).admitted = (allSlots.map (s.countAt n)).sum := by
  refine forall_congr' fun n => ?_
  rw [length_filter_eq_sum]
  rfl

section AdmittedCounted

variable {s t : State} {i : Slot}

theorem countAt_of_some {a : Assoc} (h : s.assocAt i = some a) (n : ListenNo) :
    s.countAt n i = if a.state.isLive = true ∧ a.origin = .listen n then 1 else 0 := by
  simp only [State.countAt, State.liveFrom, h, Option.elim_some]
  split <;> simp_all

theorem countAt_of_none (h : s.assocAt i = none) (n : ListenNo) : s.countAt n i = 0 := by
  simp [State.countAt, State.liveFrom, h]

theorem countAt_congr {j : Slot} (h : t.assocAt j = s.assocAt j) (n : ListenNo) : t.countAt n j = s.countAt n j := by
  rw [State.countAt, State.countAt, State.liveFrom, State.liveFrom, h]

/-- One slot changes; each count moves with what the entry has there. -/
theorem State.AdmittedCounted.change (hs : s.AdmittedCounted) (i : Slot)
    (hother : ∀ j, j ≠ i → t.assocAt j = s.assocAt j)
    (hcount : ∀ n, s.countAt n i ≤ (s.listenAt n).admitted →
      (t.listenAt n).admitted + s.countAt n i = (s.listenAt n).admitted + t.countAt n i) : t.AdmittedCounted := by
  rw [admittedCounted_iff] at hs ⊢
  intro n
  have hle : s.countAt n i ≤ (s.listenAt n).admitted := hs n ▸ le_sum_slots (s.countAt n) i
  have hsum := sum_slots_change (f := s.countAt n) (g := t.countAt n) i fun j hj => countAt_congr (hother j hj) n
  have hmoved := hcount n hle
  have hold := hs n
  omega

/-- A record is replaced by one of the same origin and liveness. -/
theorem State.AdmittedCounted.replace (hs : s.AdmittedCounted) {a b : Assoc} (ha : s.assocAt i = some a)
    (hb : t.assocAt i = some b) (hother : ∀ j, j ≠ i → t.assocAt j = s.assocAt j) (horigin : b.origin = a.origin)
    (hlive : b.state.isLive = a.state.isLive) (hlisten : ∀ n, (t.listenAt n).admitted = (s.listenAt n).admitted) :
    t.AdmittedCounted :=
  hs.change i hother fun n _ => by rw [hlisten, countAt_of_some ha, countAt_of_some hb, horigin, hlive]

/-- Slots and counts stay. -/
theorem State.AdmittedCounted.keep (hs : s.AdmittedCounted) (hslots : ∀ j, t.assocAt j = s.assocAt j)
    (hlisten : ∀ n, (t.listenAt n).admitted = (s.listenAt n).admitted) : t.AdmittedCounted :=
  hs.change 0 (fun j _ => hslots j) fun n _ => by rw [hlisten, countAt_congr (hslots 0)]

/-- A record that was or becomes not live comes or goes, while nothing is counted. -/
theorem State.AdmittedCounted.uncounted (hs : s.AdmittedCounted) (hother : ∀ j, j ≠ i → t.assocAt j = s.assocAt j)
    (hbefore : ∀ n, s.countAt n i = 0) (hafter : ∀ n, t.countAt n i = 0)
    (hlisten : ∀ n, (t.listenAt n).admitted = (s.listenAt n).admitted) : t.AdmittedCounted :=
  hs.change i hother fun n _ => by rw [hbefore, hafter, hlisten]

theorem admittedCounted_of_empty (hslots : ∀ j, t.assocAt j = none) (hlisten : ∀ n, (t.listenAt n).admitted = 0) :
    t.AdmittedCounted := by
  intro n
  rw [hlisten, List.filter_eq_nil_iff.2 fun j _ => by simp [State.liveFrom, hslots]]
  rfl

theorem admittedCounted_setAssoc (hs : s.AdmittedCounted) {a b : Assoc} (ha : s.assocAt i = some a)
    (horigin : b.origin = a.origin) (hlive : b.state.isLive = a.state.isLive) : (s.setAssoc i b).AdmittedCounted :=
  hs.replace ha (assocAt_setAssoc_self s i b) (fun _ hj => assocAt_setAssoc_of_ne s hj b) horigin hlive fun _ => rfl

/-- Entry to ENDED gives the count back (R20). -/
theorem admittedCounted_endAssoc {c : Claim} (hs : c.st.AdmittedCounted) {a : Assoc} (cause : EndCause)
    (ha : c.st.assocAt i = some a) (hl : a.state.isLive = true) : (c.endAssoc i cause).st.AdmittedCounted := by
  refine hs.change i (fun _ hj => assocAt_endAssoc_of_ne c i cause hj) fun n hle => ?_
  rw [countAt_of_some ha] at hle ⊢
  rw [countAt_of_some (assocAt_endAssoc_self cause ha hl), endAssoc_of_live cause ha hl, update_st, listenAt_endRecord,
    releaseAll_st, listenAt_setPool]
  have hdead : (a.ended cause).state.isLive = false := rfl
  simp only [hl, true_and, hdead, Bool.false_eq_true, false_and, if_false] at hle ⊢
  split at hle
  · rw [if_pos ‹_›, if_pos ‹_›]
    dsimp only
    omega
  · rw [if_neg ‹_›, if_neg ‹_›]

/-- Admission counts the association that it creates (R52, R53). -/
theorem admittedCounted_admitted (hs : s.AdmittedCounted) {l : Line} {f : Frame} {limit credit : Nat} {n : ListenNo}
    (hfree : s.assocAt i = none) : (s.admitted l f limit credit n i).AdmittedCounted := by
  obtain ⟨a, he, hlive, -, horigin, -⟩ := admittedAssoc_facts l f limit credit n (s.listenAt n)
  refine hs.change i (fun _ hj => assocAt_admitted_of_ne s i l f limit credit n hj) fun m _ => ?_
  rw [countAt_of_none hfree, countAt_of_some (he ▸ assocAt_admitted_self s l f limit credit n i), hlive, horigin]
  by_cases hm : m = n
  · subst hm
    rw [listenAt_admitted_self]
    simp
  · rw [listenAt_admitted_of_ne s i l f limit credit n hm]
    simp [Ne.symm hm]

end AdmittedCounted

theorem admittedCounted_reasonBlind : ReasonBlind State.AdmittedCounted where
  attention := fun _ hs => hs
  slot := fun _ hs ha => admittedCounted_setAssoc hs ha rfl rfl
  line := fun _ _ hs => hs.keep (fun j => by simp) fun n => by simp

theorem admittedCounted_raiseGrant {s : State} (hs : s.AdmittedCounted) {i : Slot} {a : Assoc} {n : Nat}
    (ha : s.assocAt i = some a) : (s.raiseGrant i a n).AdmittedCounted := by
  have hraised : (a.raised n).origin = a.origin ∧ (a.raised n).state = a.state := by rw [raised_eq]; exact ⟨rfl, rfl⟩
  exact hs.replace ha (assocAt_raiseGrant_self s i a n) (fun _ hj => assocAt_raiseGrant_of_ne s i a n hj) hraised.1
    (by rw [hraised.2]) fun _ => rfl

theorem admittedCounted_law : Law State.AdmittedCounted :=
  CoreLaw.law
    { frame := fun _ _ _ _ hs => hs
      settings := fun _ _ _ hs => hs
      attend := fun _ hs _ _ => hs
      takeNotice := admittedCounted_reasonBlind.takeNotice
      control := fun _ hs _ => hs
      revise := fun hs ha hab => admittedCounted_setAssoc hs ha hab.origin hab.live
      reviseLine := fun hs _ => hs.keep (fun j => by simp) fun n => by simp
      raiseSlot := admittedCounted_reasonBlind.raiseSlot
      raiseLine := admittedCounted_reasonBlind.raiseLine
      raiseGrant := fun hs ha _ _ _ => admittedCounted_raiseGrant hs ha
      endAssoc := fun cause hs ha hl => admittedCounted_endAssoc hs cause ha hl
      opening := fun {s} {i} k p hs _ _ hfree _ =>
        hs.uncounted (i := i) (fun _ hj => assocAt_create_of_ne s i hj _) (countAt_of_none hfree)
          (fun n => by rw [countAt_of_some (assocAt_create_self s i _)]; exact if_neg fun h => by cases h.2) fun n => by simp
      admission := fun hs _ _ hfree _ => admittedCounted_admitted hs hfree
      submit := fun {s} {i} {a} {b} n hs ha _ _ _ => by
        obtain ⟨x, he⟩ := submitted_facts a b n
        rw [he]
        exact hs.replace ha (assocAt_setAssoc_self _ i _) (fun _ hj => assocAt_setAssoc_of_ne _ hj _) rfl rfl
          fun _ => rfl
      takeMessage := fun {s} {i} {a} {e} {rest} hs ha _ =>
        admittedCounted_setAssoc (b := { a with inboundQueue := rest }) hs ha rfl rfl
      allocate := fun hs _ _ => hs
      giveBuffer := fun hs _ => hs
      release := fun {c} {i} {a} hs ha hl => hs.uncounted (i := i) (fun _ hj => assocAt_release_of_ne i c a hj)
        (fun n => by rw [countAt_of_some ha, hl]; simp) (countAt_of_none (assocAt_release_self i c a))
        fun n => by rw [release_st]; rfl
      receipted := fun {c} {i} {a} {next} {credit} hs ha hsend _ _ => by
        obtain ⟨b, he, hlive, -, horigin, -⟩ := receipted_facts next credit hsend
        rw [he, releaseAll_st]
        exact admittedCounted_setAssoc (s := c.st) hs ha horigin (hlive.trans (isLive_of_sends hsend).symm)
      send := fun _ _ hs _ _ _ _ => hs.keep (fun j => by simp) fun n => by simp
      frameEnd := fun out hs _ => by
        rw [update_st, retire_frame]
        exact hs.keep (fun j => by simp) fun n => by simp
      listenSet := fun {s} {n} e hs _ => hs.keep (fun _ => rfl) fun m => by
        by_cases hm : m = n
        · rw [hm, listenAt_setListen_self]
        · rw [listenAt_setListen_of_ne s hm]
      clearAll := fun {s} _ _ => admittedCounted_of_empty (fun j => assocAt_clearAll s j)
        fun n => by rw [listenAt_clearAll] }
    (fun hs ha _ _ => admittedCounted_raiseGrant hs ha) (fun hs hfree => admittedCounted_admitted hs hfree)
    (fun hs _ _ => hs.keep (fun j => by simp) fun n => by simp)

theorem admittedCounted_writeLaw : WriteLaw State.AdmittedCounted where
  deviceReset := fun {s} b _ => admittedCounted_of_empty (fun j => assocAt_deviceReset s j b)
    fun n => by rw [listenAt_deviceReset]; rfl
  acceptData := fun {s} {i} {a} {payload} {b} {rest} hs ha _ _ _ _ => by
    obtain ⟨x, y, he⟩ := acceptedData_facts a b payload.length
    rw [he]
    exact hs.replace ha (assocAt_setAssoc_self _ i _) (fun _ hj => assocAt_setAssoc_of_ne _ hj _) rfl rfl fun _ => rfl
  writeWindow := fun _ _ _ _ hs => hs

/-- Settles O10: the admitted counts are a law, each operation moving a count with the one association that it touches. -/
theorem admittedCountsStayExact : Obligations.AdmittedCountsStayExact :=
  fun _ _ hs ht => admittedCounted_law.step admittedCounted_writeLaw (fun _ _ hs => hs) hs ht

end Sys2Proof.Machine
end

section
/-! Laws of one record at a time: a predicate that every operation on a record keeps holds of all records of every later state.
With it stand the ranges of the listen entries (R49) and what holds of the buffer bytes. -/

namespace Sys2Proof.Machine

/-- `Q` holds of every record, every listen entry has its parameters in range, and `M` holds of the buffer bytes. -/
structure State.AllRecords (Q : Assoc → Prop) (M : List Host.Cell → Prop) (s : State) : Prop where
  records : ∀ i a, s.assocAt i = some a → Q a
  entries : ∀ n, (s.listenAt n).params.inRange = true
  bytes : M s.pool.memory

/-- `Q` is kept by each operation on a record, `M` by each write of buffer bytes. -/
structure RecordLaw (Q : Assoc → Prop) (M : List Host.Cell → Prop) : Prop where
  revise : ∀ {a b : Assoc}, Q a → a.Revises b → Q b
  reasons : ∀ {a : Assoc} (r : SlotReasons), Q a → Q { a with reasons := r }
  raised : ∀ {a : Assoc} {n : Nat}, Q a → a.state.credits = true →
    a.inboundQueue.length + a.grant + n ≤ a.params.inboundQuota → Q (a.raised n)
  served : ∀ {a : Assoc} {r : SlotReasons} {n : Nat}, Q a → a.state = .offered → n ≤ a.params.inboundQuota →
    Q (({ a.acceptedOffer with reasons := r } : Assoc).raised n)
  ended : ∀ {a : Assoc} (cause : EndCause), Q a → Q (a.ended cause)
  opening : ∀ (s : State) (i : Slot) (k : Key) {p : Params}, p.inRange = true → Q (s.opensAssoc i k p)
  admission : ∀ (l : Line) (f : Frame) (limit : Nat) {credit : Nat} (n : ListenNo) {e : ListenEntry},
    e.params.inRange = true → credit ≤ 15 → Q (admittedAssoc l f limit credit n e)
  submit : ∀ {a : Assoc} (b : BufferNo) (n : Nat), Q a → a.state = .opened →
    a.sendQueue.length < a.params.sendQueueLimit → Q (a.submitted b n)
  take : ∀ {a : Assoc} {e : InboundEntry} {rest : List InboundEntry}, Q a → a.inboundQueue = e :: rest →
    Q { a with inboundQueue := rest }
  receipted : ∀ {a : Assoc} {next : Tag} {credit : Nat}, Q a → a.state.sends = true →
    tagDistance a.sendBase next ≤ tagDistance a.sendBase a.sentMark → credit ≤ 15 → Q (a.receipted next credit)
  acceptData : ∀ {a : Assoc} (b : BufferNo) (n : Nat), Q a → a.state.receives = true → 0 < a.grant → Q (a.acceptedData b n)
  stored : ∀ {a : Assoc} {m : List Host.Cell} (b : BufferNo) {payload : List Byte}, Q a →
    payload.length ≤ a.params.inboundLimit → M m → M (Memory.writeBytes m (Memory.cell b 0) payload)
  written : ∀ {m : List Host.Cell} (b : BufferNo) (k : Fin 60) (lanes : BitVec 4) (data : Word), M m →
    M (writeLanes m b k.val lanes data)
  empty : M []

section AllRecords

variable {Q : Assoc → Prop} {M : List Host.Cell → Prop} {s t : State}

/-- One slot changes. -/
theorem State.AllRecords.change (hs : s.AllRecords Q M) (i : Slot) (hother : ∀ j, j ≠ i → t.assocAt j = s.assocAt j)
    (hself : ∀ b, t.assocAt i = some b → Q b) (hlisten : ∀ n, (t.listenAt n).params = (s.listenAt n).params)
    (hbytes : M t.pool.memory) : t.AllRecords Q M where
  records := fun j b hb => by
    by_cases hj : j = i
    · exact hself b (hj ▸ hb)
    · exact hs.records j b (hother j hj ▸ hb)
  entries := fun n => hlisten n ▸ hs.entries n
  bytes := hbytes

/-- One slot gets a record of which `Q` holds; entries and bytes stay. -/
theorem State.AllRecords.put (hs : s.AllRecords Q M) {i : Slot} {b : Assoc} (hq : Q b) (hb : t.assocAt i = some b)
    (hother : ∀ j, j ≠ i → t.assocAt j = s.assocAt j) (hlisten : ∀ n, (t.listenAt n).params = (s.listenAt n).params)
    (hbytes : t.pool.memory = s.pool.memory) : t.AllRecords Q M :=
  hs.change i hother (fun x hx => by rw [hb] at hx; cases hx; exact hq) hlisten (hbytes ▸ hs.bytes)

/-- Records, entries and bytes stay. -/
theorem State.AllRecords.keep (hs : s.AllRecords Q M) (hslots : ∀ j, t.assocAt j = s.assocAt j)
    (hlisten : ∀ n, (t.listenAt n).params = (s.listenAt n).params) (hbytes : t.pool.memory = s.pool.memory) :
    t.AllRecords Q M :=
  hs.change 0 (fun j _ => hslots j) (fun b hb => hs.records 0 b (hslots 0 ▸ hb)) hlisten (hbytes ▸ hs.bytes)

theorem allRecords_setAssoc (hs : s.AllRecords Q M) (i : Slot) {b : Assoc} (hq : Q b) : (s.setAssoc i b).AllRecords Q M :=
  hs.put hq (assocAt_setAssoc_self s i b) (fun _ hj => assocAt_setAssoc_of_ne s hj b) (fun _ => rfl) rfl

theorem allRecords_setLine (hs : s.AllRecords Q M) (l : Line) (q : LineRecord) : (s.setLine l q).AllRecords Q M :=
  hs.keep (fun j => by simp) (fun n => by simp) (by simp)

end AllRecords

namespace RecordLaw

variable {Q : Assoc → Prop} {M : List Host.Cell → Prop} (h : RecordLaw Q M)

include h

theorem reasonBlind : ReasonBlind (State.AllRecords Q M) where
  attention := fun _ hs => ⟨hs.records, hs.entries, hs.bytes⟩
  slot := fun {_} {i} {_} r hs ha => allRecords_setAssoc hs i (h.reasons r (hs.records i _ ha))
  line := fun l _ hs => allRecords_setLine hs l _

omit h in
theorem raiseGrant {s : State} (hs : s.AllRecords Q M) {i : Slot} {a : Assoc} {n : Nat} (hq : Q (a.raised n)) :
    (s.raiseGrant i a n).AllRecords Q M :=
  hs.put hq (assocAt_raiseGrant_self s i a n) (fun _ hj => assocAt_raiseGrant_of_ne s i a n hj) (fun _ => rfl) rfl

theorem admitted {s : State} (hs : s.AllRecords Q M) {l : Line} {f : Frame} {limit credit : Nat} {n : ListenNo}
    {i : Slot} (hc : credit ≤ 15) : (s.admitted l f limit credit n i).AllRecords Q M := by
  refine hs.put (h.admission l f limit n (hs.entries n) hc) (assocAt_admitted_self s l f limit credit n i)
    (fun _ hj => assocAt_admitted_of_ne s i l f limit credit n hj) (fun m => ?_) rfl
  by_cases hm : m = n
  · rw [hm, listenAt_admitted_self]
  · rw [listenAt_admitted_of_ne s i l f limit credit n hm]

theorem endAssoc {c : Claim} (hs : c.st.AllRecords Q M) {i : Slot} {a : Assoc} (cause : EndCause)
    (ha : c.st.assocAt i = some a) (hl : a.state.isLive = true) : (c.endAssoc i cause).st.AllRecords Q M := by
  refine hs.put (h.ended cause (hs.records i a ha)) (assocAt_endAssoc_self cause ha hl)
    (fun _ hj => assocAt_endAssoc_of_ne c i cause hj) (fun n => ?_) (by simp)
  rw [endAssoc_of_live cause ha hl, update_st, listenAt_endRecord, releaseAll_st, listenAt_setPool]
  split <;> rfl

theorem coreLaw : CoreLaw (State.AllRecords Q M) where
  frame := fun _ _ _ _ hs => ⟨hs.records, hs.entries, hs.bytes⟩
  settings := fun _ _ _ hs => ⟨hs.records, hs.entries, hs.bytes⟩
  attend := fun t hs _ _ => h.reasonBlind.attention t hs
  takeNotice := h.reasonBlind.takeNotice
  control := fun _ hs _ => ⟨hs.records, hs.entries, hs.bytes⟩
  revise := fun {_} {i} {_} {_} hs ha hab => allRecords_setAssoc hs i (h.revise (hs.records i _ ha) hab)
  reviseLine := fun hs _ => allRecords_setLine hs _ _
  raiseSlot := h.reasonBlind.raiseSlot
  raiseLine := h.reasonBlind.raiseLine
  raiseGrant := fun {_} {i} {_} {_} hs ha hc _ hfit => raiseGrant hs (h.raised (hs.records i _ ha) hc hfit)
  endAssoc := fun cause hs ha hl => h.endAssoc hs cause ha hl
  opening := fun {s} {i} {k} {p} hs _ _ _ hp => hs.put (h.opening s i k hp) (assocAt_create_self s i _)
    (fun _ hj => assocAt_create_of_ne s i hj _) (fun _ => rfl) rfl
  admission := fun hs _ _ _ hc => h.admitted hs hc
  submit := fun {s} {i} {a} {b} n hs ha hopen _ hlt =>
    hs.put (h.submit b n (hs.records i a ha) hopen hlt) (assocAt_setAssoc_self _ i _)
      (fun _ hj => assocAt_setAssoc_of_ne _ hj _) (fun _ => rfl) rfl
  takeMessage := fun {s} {i} {a} {e} {rest} hs ha hq =>
    (allRecords_setAssoc hs i (h.take (hs.records i a ha) hq)).keep (fun _ => rfl) (fun _ => rfl) rfl
  allocate := fun hs _ _ => hs.keep (fun _ => rfl) (fun _ => rfl) rfl
  giveBuffer := fun hs _ => hs.keep (fun _ => rfl) (fun _ => rfl) rfl
  release := fun {c} {i} {a} hs _ _ => by
    refine hs.change i (fun _ hj => assocAt_release_of_ne i c a hj) (fun b hb => ?_) (fun n => by rw [release_st]; rfl) ?_
    · rw [assocAt_release_self] at hb
      cases hb
    · rw [release_st, setSlotRec_pool, setAttention_pool, setPool_pool, returnAll_frame]
      exact hs.bytes
  receipted := fun {c} {i} {a} {next} {credit} hs ha hsend hn hc => by
    rw [releaseAll_st]
    exact hs.put (h.receipted (hs.records i a ha) hsend hn hc) (assocAt_setAssoc_self _ i _)
      (fun _ hj => assocAt_setAssoc_of_ne _ hj _) (fun _ => rfl) rfl
  send := fun _ _ hs _ _ _ _ => allRecords_setLine hs _ _
  frameEnd := fun out hs _ => by
    rw [update_st, retire_frame]
    exact hs.keep (fun j => by simp) (fun n => by simp) (by simp)
  listenSet := fun {s} {n} e hs he =>
    ⟨hs.records, fun m => by
      by_cases hm : m = n
      · rw [hm, listenAt_setListen_self]
        exact he
      · rw [listenAt_setListen_of_ne s hm]
        exact hs.entries m, hs.bytes⟩
  clearAll := fun {s} hs _ => ⟨fun i a ha => (by rw [assocAt_clearAll] at ha; cases ha),
    fun n => by rw [listenAt_clearAll]; exact hs.entries n, hs.bytes⟩

/-- ACCEPT: the served association is raised to its quota at most (R56, R134). -/
theorem accept {s : State} {i : Slot} {a : Assoc} (hs : s.AllRecords Q M) (ha : s.assocAt i = some a)
    (hoff : a.state = .offered) :
    (((s.setAssoc i a.acceptedOffer).raiseSlot i .opened).servingPass i).AllRecords Q M := by
  have hq := hs.records i a ha
  have hopened := h.coreLaw.raiseSlot .opened (h.coreLaw.revise hs ha (revises_acceptedOffer hoff))
    (assocAt_setAssoc_self s i _)
  rw [servingPass_eq (assocAt_raiseSlot_self _ (assocAt_setAssoc_self s i a.acceptedOffer) .opened)]
  refine h.coreLaw.refreshPass ?_
  unfold State.served
  split
  · exact hopened
  · exact raiseGrant hopened (h.served hq hoff (Nat.min_le_left _ _))

theorem law : Law (State.AllRecords Q M) :=
  have lineLoss {s : State} (l : Line) (hs : s.AllRecords Q M) :=
    h.coreLaw.lineLoss_of (fun hs _ _ => allRecords_setLine hs _ _) l hs
  { h.coreLaw with
    restart := fun hs _ _ _ _ hc => h.admitted (h.coreLaw.anyEnd _ _ hs) hc
    accept := h.accept
    carrierLoss := fun hs _ => (lineLoss _ hs).1
    goDown := fun hs _ => (lineLoss _ hs).2.1
    disableLine := fun hs _ => (lineLoss _ hs).2.2 }

theorem writeLaw : WriteLaw (State.AllRecords Q M) where
  deviceReset := fun {s} b _ => ⟨fun i a ha => (by rw [assocAt_deviceReset] at ha; cases ha),
    fun n => by rw [listenAt_deviceReset]; rfl, h.empty⟩
  acceptData := fun {s} {i} {a} {payload} {b} {rest} hs ha hr hg hle _ =>
    hs.change i (fun _ hj => assocAt_setAssoc_of_ne _ hj _)
      (fun x hx => by
        rw [assocAt_setAssoc_self] at hx
        cases hx
        exact h.acceptData b _ (hs.records i a ha) hr hg)
      (fun _ => rfl) (h.stored b (hs.records i a ha) hle hs.bytes)
  writeWindow := fun b k lanes data hs => ⟨hs.records, hs.entries, h.written b k lanes data hs.bytes⟩

/-- Every step keeps what holds of all records. -/
theorem step {s t : State} (hs : s.AllRecords Q M) (ht : step s = .next t) : t.AllRecords Q M :=
  h.law.step h.writeLaw (fun _ _ hs => ⟨hs.records, hs.entries, hs.bytes⟩) hs ht

end RecordLaw

end Sys2Proof.Machine
end

section
/-! The parameters of every record and listen entry stay in range (R8, R49), and the buffer bytes in canonical form (log 12). -/

namespace Sys2Proof.Machine

theorem inboundLimit_le_of_inRange {p : Params} (h : p.inRange = true) : p.inboundLimit ≤ 240 := by
  simp only [Params.inRange, within, Bool.and_eq_true, decide_eq_true_eq] at h
  omega

/-- A payload within a buffer's length is stored inside the buffers. -/
theorem wf_writePayload {m : List Host.Cell} (b : BufferNo) {payload : List Byte} (hlen : payload.length ≤ 240)
    (hm : Memory.wf m = true) : Memory.wf (Memory.writeBytes m (Memory.cell b 0) payload) = true := by
  refine wf_writeBytes payload hm ?_
  have := b.isLt
  simp only [Memory.cell, Memory.size, Config.bufferBytes]
  omega

theorem wf_writeLane {m : List Host.Cell} (b : BufferNo) {k lane : Nat} (hk : 4 * k + lane < 240) (lanes : BitVec 4)
    (data : Word) (hm : Memory.wf m = true) : Memory.wf (writeLane m b k lanes data lane) = true := by
  unfold writeLane
  split
  · exact wf_write _ hm (cell_lt b hk)
  · exact hm

theorem wf_writeLanes {m : List Host.Cell} (b : BufferNo) (k : Fin 60) (lanes : BitVec 4) (data : Word)
    (hm : Memory.wf m = true) : Memory.wf (writeLanes m b k.val lanes data) = true := by
  have hk := k.isLt
  have hlane (lane : Nat) (hlane : lane < 4) : 4 * k.val + lane < 240 := by omega
  exact wf_writeLane b (hlane 3 (by omega)) lanes data (wf_writeLane b (hlane 2 (by omega)) lanes data
    (wf_writeLane b (hlane 1 (by omega)) lanes data (wf_writeLane b (hlane 0 (by omega)) lanes data hm)))

/-- A record's parameters are those of its creation. -/
theorem params_recordLaw : RecordLaw (fun a => a.params.inRange = true) (fun m => Memory.wf m = true) where
  revise := fun ha hab => hab.params ▸ ha
  reasons := fun _ ha => ha
  raised := fun ha _ _ => by rw [raised_eq]; exact ha
  served := fun ha _ _ => by rw [raised_eq]; exact ha
  ended := fun _ ha => ha
  opening := fun _ _ _ _ hp => hp
  admission := fun l f limit {credit} n {e} he _ => by
    obtain ⟨a, hadm, -, -, -, hp, -⟩ := admittedAssoc_facts l f limit credit n e
    rw [hadm, hp]
    exact he
  submit := fun {a} b n ha _ _ => by
    obtain ⟨x, he⟩ := submitted_facts a b n
    rw [he]
    exact ha
  take := fun ha _ => ha
  receipted := fun {a} {next} {credit} ha hsend _ _ => by
    obtain ⟨b, he, -, -, -, hp, -⟩ := receipted_facts next credit hsend
    rw [he, hp]
    exact ha
  acceptData := fun {a} b n ha _ _ => by
    obtain ⟨x, y, he⟩ := acceptedData_facts a b n
    rw [he]
    exact ha
  stored := fun {_} {_} b {_} ha hle hm => wf_writePayload b (hle.trans (inboundLimit_le_of_inRange ha)) hm
  written := fun b k lanes data hm => wf_writeLanes b k lanes data hm
  empty := rfl

/-- Settles O14: a stored payload is no longer than its buffer because parameters stay in range, so every write of bytes keeps
the canonical form. -/
theorem bufferBytesStayCanonical : Obligations.BufferBytesStayCanonical := by
  intro s t ⟨hparams, hbytes⟩ ht
  have hall := params_recordLaw.step ⟨hparams.records, hparams.entries, hbytes⟩ ht
  exact ⟨⟨hall.records, hall.entries⟩, hall.bytes⟩

end Sys2Proof.Machine
end

section
/-! The order of tags and positions and the quota (R10, R65, R85, R103, R108) as a law of one record at a time. -/

namespace Sys2Proof.Machine

/-- What holds of a record whatever its state: its parameters are in range; live, it is in order; ENDED, its send queue is empty. -/
structure Assoc.Sound (a : Assoc) : Prop where
  params : a.params.inRange = true
  live : a.state.isLive = true → a.InOrder
  ended : a.state.isLive = false → a.sendQueue = []

theorem recordsOrdered_iff (s : State) : s.RecordsOrdered ↔ s.AllRecords Assoc.Sound fun _ => True := by
  constructor
  · intro hs
    exact ⟨fun i a ha => ⟨hs.params.records i a ha, hs.live i a ha, hs.ended i a ha⟩, hs.params.entries, trivial⟩
  · intro hs
    exact ⟨⟨fun i a ha => (hs.records i a ha).params, hs.entries⟩, fun i a ha => (hs.records i a ha).live,
      fun i a ha => (hs.records i a ha).ended⟩

theorem sendQueueLimit_le_of_inRange {p : Params} (h : p.inRange = true) : p.sendQueueLimit ≤ 32 := by
  simp only [Params.inRange, within, Bool.and_eq_true, decide_eq_true_eq] at h
  omega

theorem isLive_of_credits {st : AssocState} (h : st.credits = true) : st.isLive = true := by
  cases st <;> simp_all [AssocState.credits, AssocState.isLive]

theorem credits_of_receives {st : AssocState} (h : st.receives = true) : st.credits = true ∧ st ≠ .offered := by
  cases st <;> simp_all [AssocState.credits, AssocState.receives]

/-- A new record is in order: empty queues, all positions 0, and a peer limit of 15 at most. -/
theorem inOrder_fresh {a : Assoc} (hqueue : a.sendQueue = []) (hin : a.inboundQueue = []) (hgrant : a.grant = 0)
    (hbase : a.sendBase = 0) (hnext : a.nextToSend = 0) (hsent : a.sentMark = 0) (hsubmit : a.submitTag = 0)
    {credit : Nat} (hpeer : a.peerLimit = BitVec.ofNat 8 credit) (hc : credit ≤ 15) (hstate : a.state ≠ .draining) :
    a.InOrder := by
  have hdist : tagDistance 0 (BitVec.ofNat 8 credit) = credit := by
    simpa using tagDistance_add_ofNat 0 (n := credit) (by omega)
  refine ⟨?_, fun _ => by simp [hin, hgrant], fun _ => ⟨hgrant, hin⟩⟩
  constructor <;> simp only [hqueue, hbase, hnext, hsent, hsubmit, hpeer, hdist, tagDistance_self, hstate] <;> simp [hc]

/-- The inbound part does not depend on the outbound one. -/
theorem quotaKept_of_credits {a : Assoc} (hfit : a.inboundQueue.length + a.grant ≤ a.params.inboundQuota)
    (hstate : a.state ≠ .offered) : a.quotaKept := ⟨fun _ => hfit, fun ho => absurd ho hstate⟩

/-- SUBMIT appends the entry of the submit tag (R68). -/
theorem tagsOrdered_submitted {a : Assoc} (h : a.TagsOrdered) (b : BufferNo) (n : Nat) (hopen : a.state = .opened)
    (hlimit : a.params.sendQueueLimit ≤ 32) (hlt : a.sendQueue.length < a.params.sendQueueLimit) :
    (a.submitted b n).TagsOrdered := by
  obtain ⟨x, he⟩ := submitted_facts a b n
  rw [he]
  have hlen := h.length
  have hsucc : tagDistance a.sendBase (a.submitTag + 1) = tagDistance a.sendBase a.submitTag + 1 :=
    tagDistance_succ (by omega)
  have hsubmit : a.submitTag = a.sendBase + BitVec.ofNat 8 a.sendQueue.length := by
    rw [hlen]
    exact tagDistance_inj (tagDistance_add_ofNat a.sendBase (tagDistance_lt _ _)).symm
  exact { h with
    tags := by simp [h.tags, List.range_succ, ← hsubmit]
    length := by
      change (a.sendQueue ++ _).length = tagDistance a.sendBase (a.submitTag + 1)
      rw [List.length_append, hsucc, hlen]
      rfl
    sent := by dsimp only; have := h.sent; omega
    queue := by simpa using hlt
    empty := fun hs => by rw [hopen] at hs; cases hs
    draining := fun hs => by simp }

/-- A RECEIPT in range drops entries and moves base, next-to-send and peer limit (R74, R75), whatever state follows that fits the
queue that is left. -/
theorem tagsOrdered_advance {a : Assoc} (h : a.TagsOrdered) {next : Tag} {credit : Nat} {st : AssocState}
    (hnext : tagDistance a.sendBase next ≤ tagDistance a.sendBase a.sentMark) (hc : credit ≤ 15)
    (hempty : st.sends = false → (a.advance next credit).sendQueue = [])
    (hdrain : st = .draining → (a.advance next credit).sendQueue ≠ []) :
    ({ a.advance next credit with state := st } : Assoc).TagsOrdered := by
  have hsent := h.sent
  have hpeer := h.peer
  have hcredit := h.credit
  have hwindow := h.window
  have hlen := h.length
  have hqueue := h.queue
  have hmark := h.next
  have hbase (t : Tag) (ht : tagDistance a.sendBase next ≤ tagDistance a.sendBase t) :
      tagDistance next t = tagDistance a.sendBase t - tagDistance a.sendBase next := tagDistance_rebase ht
  have hlimit : tagDistance next (laterTag next a.peerLimit (next + BitVec.ofNat 8 credit)) =
      max (tagDistance a.sendBase a.peerLimit - tagDistance a.sendBase next) credit := by
    rw [tagDistance_laterTag, tagDistance_add_ofNat next (by omega), hbase _ (by omega)]
  have hsend : tagDistance next (a.advance next credit).nextToSend =
      tagDistance a.sendBase a.nextToSend - tagDistance a.sendBase next := by
    unfold Assoc.advance
    dsimp only
    split
    · rw [tagDistance_self]
      omega
    · exact hbase _ (by omega)
  have htag (k : Nat) : a.sendBase + BitVec.ofNat 8 (tagDistance a.sendBase next + k) = next + BitVec.ofNat 8 k := by
    unfold tagDistance
    bv_omega
  exact {
    tags := by
      change (a.sendQueue.drop _).map _ = (List.range (a.sendQueue.drop _).length).map fun k => next + BitVec.ofNat 8 k
      rw [List.map_drop, h.tags, List.length_drop]
      apply List.ext_getElem <;> simp [htag]
    length := by
      change (a.sendQueue.drop _).length = tagDistance next a.submitTag
      rw [List.length_drop, hbase _ (by omega), hlen]
    next := by
      change tagDistance next _ ≤ tagDistance next a.sentMark
      rw [hsend, hbase _ hnext]
      omega
    sent := by
      change tagDistance next a.sentMark ≤ tagDistance next a.submitTag
      rw [hbase _ hnext, hbase _ (by omega)]
      omega
    peer := by
      change tagDistance next a.sentMark ≤ tagDistance next _
      rw [hbase _ hnext]
      exact (Nat.sub_le_sub_right hpeer _).trans (hlimit ▸ Nat.le_max_left _ _)
    credit := by
      change tagDistance next (laterTag _ _ _) ≤ 15
      omega
    window := by
      change tagDistance next (a.advance next credit).nextToSend ≤ a.params.window
      omega
    queue := by
      change (a.sendQueue.drop _).length ≤ a.params.sendQueueLimit
      rw [List.length_drop]
      omega
    empty := hempty
    draining := hdrain }

/-- The record after a RECEIPT is in order: a DRAINING one whose queue ran empty is CLOSING (R77). -/
theorem inOrder_receipted {a : Assoc} (h : a.InOrder) (hs : a.state.sends = true) {next : Tag} {credit : Nat}
    (hnext : tagDistance a.sendBase next ≤ tagDistance a.sendBase a.sentMark) (hc : credit ≤ 15) :
    (a.receipted next credit).InOrder := by
  obtain ⟨htags, hquota⟩ := h
  have hsettled : (a.advance next credit).Clerical _ := clerical_settle _ (tagDistance a.sendBase next ≠ 0)
  have hstates : a.state = .opened ∨ a.state = .draining := (sends_iff a.state).1 hs
  have hfit : a.inboundQueue.length + a.grant ≤ a.params.inboundQuota := hquota.1 (by obtain h | h := hstates <;> rw [h] <;> rfl)
  unfold Assoc.receipted
  dsimp only
  rw [hsettled]
  split
  · rename_i hclose
    simp only [Bool.and_eq_true, List.isEmpty_iff] at hclose
    refine ⟨?_, quotaKept_of_credits hfit (by simp [Assoc.toClosing])⟩
    exact TagsOrdered.congr (tagsOrdered_advance (st := .closing) htags hnext hc (fun _ => hclose.2) (fun h => by cases h))
      rfl rfl rfl rfl rfl rfl rfl rfl
  · rename_i hstay
    refine ⟨?_, quotaKept_of_credits hfit (by obtain h | h := hstates <;> simp [Assoc.advance, h])⟩
    refine TagsOrdered.congr
      (tagsOrdered_advance (st := a.state) htags hnext hc (fun hn => ?_) (fun hd hq => hstay ?_)) rfl rfl rfl rfl rfl rfl rfl rfl
    · rw [hs] at hn
      cases hn
    · simp [hd, htags.draining hd, hq]

theorem sound_of_live {a : Assoc} (hp : a.params.inRange = true) (hl : a.state.isLive = true) (h : a.InOrder) : a.Sound :=
  ⟨hp, fun _ => h, fun hd => by rw [hl] at hd; cases hd⟩

/-- A raise within the quota (R96, R103). -/
theorem sound_raised {a : Assoc} {n : Nat} (h : a.Sound) (hc : a.state.credits = true)
    (hfit : a.inboundQueue.length + a.grant + n ≤ a.params.inboundQuota) : (a.raised n).Sound := by
  obtain ⟨htags, hquota⟩ := h.live (isLive_of_credits hc)
  rw [raised_eq]
  refine sound_of_live h.params (isLive_of_credits hc) ⟨TagsOrdered.congr htags rfl rfl rfl rfl rfl rfl rfl rfl, ?_⟩
  refine quotaKept_of_credits (by dsimp only; omega) fun ho => ?_
  dsimp only at ho
  rw [ho] at hc
  cases hc

theorem sound_reasons {a : Assoc} (r : SlotReasons) (h : a.Sound) : ({ a with reasons := r } : Assoc).Sound where
  params := h.params
  live := fun hl => ⟨TagsOrdered.congr (h.live hl).1 rfl rfl rfl rfl rfl rfl rfl rfl,
    quotaKept.congr (h.live hl).2 rfl rfl rfl rfl⟩
  ended := h.ended

theorem sound_recordLaw : RecordLaw Assoc.Sound fun _ => True where
  revise := fun ha hab => ⟨hab.params ▸ ha.params, fun hl => hab.ordered (hab.live ▸ hl) (ha.live (hab.live ▸ hl)),
    fun hd => hab.sendQueue.trans (ha.ended (hab.live ▸ hd))⟩
  reasons := sound_reasons
  raised := sound_raised
  served := fun {a} {r} {n} ha hoff hn => by
    obtain ⟨hgrant, hin⟩ := (ha.live (by rw [hoff]; rfl)).2.2 hoff
    have hopened : a.acceptedOffer.Sound := ⟨ha.params,
      fun _ => (revises_acceptedOffer hoff).ordered (by rw [hoff]; rfl) (ha.live (by rw [hoff]; rfl)), fun hd => by cases hd⟩
    refine sound_raised (sound_reasons r hopened) rfl ?_
    change a.inboundQueue.length + a.grant + n ≤ a.params.inboundQuota
    simpa [hgrant, hin] using hn
  ended := fun _ ha => ⟨ha.params, fun hl => (by cases hl), fun _ => rfl⟩
  opening := fun s i k p hp =>
    sound_of_live hp rfl (inOrder_fresh (credit := 0) rfl rfl rfl rfl rfl rfl rfl rfl (by omega) (by intro h; cases h))
  admission := fun l f limit {credit} n {e} he hc => by
    unfold admittedAssoc
    dsimp only
    split
    · exact sound_of_live he rfl (inOrder_fresh rfl rfl rfl rfl rfl rfl rfl rfl hc (by intro h; cases h))
    · exact sound_of_live he rfl (inOrder_fresh rfl rfl rfl rfl rfl rfl rfl rfl hc (by intro h; cases h))
  submit := fun {a} b n ha hopen hlt => by
    have hl : a.state.isLive = true := by rw [hopen]; rfl
    obtain ⟨htags, hquota⟩ := ha.live hl
    have htagged := tagsOrdered_submitted htags b n hopen (sendQueueLimit_le_of_inRange ha.params) hlt
    obtain ⟨x, he⟩ := submitted_facts a b n
    rw [he] at htagged ⊢
    exact sound_of_live ha.params hl ⟨htagged, quotaKept.congr hquota rfl rfl rfl rfl⟩
  take := fun {a} {e} {rest} ha hq => by
    refine ⟨ha.params, fun hl => ?_, ha.ended⟩
    obtain ⟨htags, hquota⟩ := ha.live hl
    refine ⟨TagsOrdered.congr htags rfl rfl rfl rfl rfl rfl rfl rfl, fun hc => ?_, fun ho => ?_⟩
    · have := hquota.1 hc
      rw [hq, List.length_cons] at this
      dsimp only
      omega
    · have := (hquota.2 ho).2
      rw [hq] at this
      cases this
  receipted := fun {a} {next} {credit} ha hsend hn hc => by
    have horder := inOrder_receipted (ha.live (isLive_of_sends hsend)) hsend hn hc
    obtain ⟨b, he, hlive, -, -, hp, -⟩ := receipted_facts next credit hsend
    rw [he] at horder ⊢
    exact sound_of_live (hp ▸ ha.params) hlive horder
  acceptData := fun {a} b n ha hr hg => by
    obtain ⟨hcredits, hstate⟩ := credits_of_receives hr
    obtain ⟨htags, hquota⟩ := ha.live (isLive_of_credits hcredits)
    have hfit := hquota.1 hcredits
    obtain ⟨x, y, he⟩ := acceptedData_facts a b n
    rw [he]
    refine sound_of_live ha.params (isLive_of_credits hcredits)
      ⟨TagsOrdered.congr htags rfl rfl rfl rfl rfl rfl rfl rfl, quotaKept_of_credits ?_ hstate⟩
    simp only [List.length_append, List.length_singleton]
    omega
  stored := fun _ _ _ _ _ => trivial
  written := fun _ _ _ _ _ => trivial
  empty := trivial

/-- Settles O13: with the ranges of the parameters, order and quota are a law of one record at a time. -/
theorem recordsStayOrdered : Obligations.RecordsStayOrdered := by
  intro s t hs ht
  rw [recordsOrdered_iff] at hs ⊢
  exact sound_recordLaw.step hs ht

end Sys2Proof.Machine
end

section
/-! The law of the attention list (R181, R183, R185): it holds exactly the sources with reasons, each once, and an empty list has
no holdoff. -/

namespace Sys2Proof.Machine

/-! ### The attention unit's list -/

/-- The attention unit has no holdoff and no indicator while its list is empty (R185). -/
def Attention.Quiet (t : Attention) : Prop := t.list = [] → t.holdoffTimer = .stopped ∧ t.indicator = false

section Lists

variable (t : Attention) (src : Source)

@[simp] theorem list_join : (t.join src).list = t.list ++ [src] := by
  unfold Attention.join
  split
  · rename_i h
    rw [List.isEmpty_iff] at h
    split <;> simp [h]
  · rfl

@[simp] theorem list_shorten (rest : List Source) : (t.shorten rest).list = rest := by
  unfold Attention.shorten
  split
  · rename_i h
    simp only [Bool.and_eq_true, List.isEmpty_iff] at h
    exact h.1.symm
  · rfl

theorem quiet_join : (t.join src).Quiet := fun h => by
  rw [list_join] at h
  exact absurd h (List.append_ne_nil_of_right_ne_nil _ (List.cons_ne_nil _ _))

theorem quiet_shorten {t : Attention} (rest : List Source) (h : t.Quiet) : (t.shorten rest).Quiet := by
  unfold Attention.shorten
  split
  · exact fun _ => ⟨rfl, rfl⟩
  · rename_i hshort
    intro hempty
    dsimp only at hempty
    refine h (Classical.byContradiction fun hne => hshort ?_)
    simp [hempty, hne]

end Lists

/-! ### Reason sets -/

theorem raise_ne_empty (r : SlotReasons) (x : SlotReason) : r.raise x ≠ .empty := by
  cases x <;> simp [SlotReasons.raise, SlotReasons.empty]

theorem raiseLine_ne_empty (r : LineReasons) (x : LineReason) : r.raise x ≠ .empty := by
  cases x <;> simp [LineReasons.raise, LineReasons.empty]

section Holds

variable {s t : State} {i : Slot}

theorem holdsReasons_of_some {a : Assoc} (h : s.assocAt i = some a) :
    s.holdsReasons (.slot i) = true ↔ a.reasons ≠ .empty := by
  simp [State.holdsReasons, h, SlotReasons.isEmpty]

theorem holdsReasons_of_none (h : s.assocAt i = none) : ¬ s.holdsReasons (.slot i) = true := by
  simp [State.holdsReasons, h]

theorem holdsReasons_line (l : Line) : s.holdsReasons (.line l) = true ↔ (s.line l).reasons ≠ .empty := by
  simp [State.holdsReasons, LineReasons.isEmpty]

theorem holdsReasons_congr {j : Slot} (h : t.assocAt j = s.assocAt j) :
    t.holdsReasons (.slot j) = s.holdsReasons (.slot j) := by
  rw [State.holdsReasons, State.holdsReasons, h]

theorem holdsReasons_line_congr {l : Line} (h : (t.line l).reasons = (s.line l).reasons) :
    t.holdsReasons (.line l) = s.holdsReasons (.line l) := by
  rw [State.holdsReasons, State.holdsReasons, h]

/-- Slots but `i` and the reasons of all lines stay: so do the sources with reasons but slot `i`. -/
theorem holdsReasons_of_ne (hother : ∀ j, j ≠ i → t.assocAt j = s.assocAt j)
    (hlines : ∀ l, (t.line l).reasons = (s.line l).reasons) (x : Source) (hx : x ≠ .slot i) :
    t.holdsReasons x = s.holdsReasons x := by
  cases x with
  | slot j => exact holdsReasons_congr (hother j fun h => hx (h ▸ rfl))
  | line l => exact holdsReasons_line_congr (hlines l)

theorem holdsReasons_of_ne_line {l : Line} (hslots : ∀ j, t.assocAt j = s.assocAt j)
    (hother : ∀ m, m ≠ l → t.line m = s.line m) (x : Source) (hx : x ≠ .line l) :
    t.holdsReasons x = s.holdsReasons x := by
  cases x with
  | slot j => exact holdsReasons_congr (hslots j)
  | line m => exact holdsReasons_line_congr (congrArg _ (hother m fun h => hx (h ▸ rfl)))

end Holds

/-! ### How the law is kept -/

namespace State.NoticesListed

variable {s t : State} {src : Source}

theorem isQuiet (hs : s.NoticesListed) : s.attention.Quiet := hs.quiet

/-- The same sources have reasons and stand in the same list. -/
theorem keep (hs : s.NoticesListed) (hlist : t.attention.list = s.attention.list)
    (hholds : ∀ x, t.holdsReasons x = s.holdsReasons x) (hquiet : t.attention.Quiet) : t.NoticesListed :=
  ⟨hlist ▸ hs.once, fun x => by rw [hlist, hholds]; exact hs.listed x, hquiet⟩

/-- A source gets its first reason and joins the list (R181). -/
theorem join (hs : s.NoticesListed) (hatt : t.attention = s.attention.join src) (hbefore : ¬ s.holdsReasons src = true)
    (hafter : t.holdsReasons src = true) (hholds : ∀ x, x ≠ src → t.holdsReasons x = s.holdsReasons x) :
    t.NoticesListed := by
  have hout : src ∉ s.attention.list := fun h => hbefore ((hs.listed src).1 h)
  refine ⟨?_, fun x => ?_, hatt ▸ quiet_join _ _⟩
  · rw [hatt, list_join]
    exact List.nodup_append.2 ⟨hs.once, List.nodup_singleton _, fun x hx y hy hxy =>
      hout (List.mem_singleton.1 hy ▸ hxy ▸ hx)⟩
  · rw [hatt, list_join, List.mem_append, List.mem_singleton]
    by_cases hx : x = src
    · exact iff_of_true (.inr hx) (hx ▸ hafter)
    · rw [hholds x hx, ← hs.listed x]
      simp [hx]

/-- A source loses all its reasons and leaves the list (R121, R182). -/
theorem leave (hs : s.NoticesListed) (hlist : t.attention.list = s.attention.list.filter fun x => x ≠ src)
    (hafter : ¬ t.holdsReasons src = true) (hholds : ∀ x, x ≠ src → t.holdsReasons x = s.holdsReasons x)
    (hquiet : t.attention.Quiet) : t.NoticesListed := by
  refine ⟨hlist ▸ hs.once.filter _, fun x => ?_, hquiet⟩
  rw [hlist, List.mem_filter, decide_eq_true_eq]
  by_cases hx : x = src
  · exact iff_of_false (fun h => h.2 hx) (hx ▸ hafter)
  · rw [hholds x hx, ← hs.listed x]
    exact and_iff_left hx

/-- A record is replaced by one with the same reasons. -/
theorem replace (hs : s.NoticesListed) {i : Slot} {a b : Assoc} (ha : s.assocAt i = some a) (hb : t.assocAt i = some b)
    (hother : ∀ j, j ≠ i → t.assocAt j = s.assocAt j) (hreasons : b.reasons = a.reasons)
    (hlines : ∀ l, (t.line l).reasons = (s.line l).reasons) (hatt : t.attention = s.attention) : t.NoticesListed := by
  refine hs.keep (by rw [hatt]) (fun x => ?_) (hatt ▸ hs.isQuiet)
  by_cases hx : x = .slot i
  · rw [hx, Bool.eq_iff_iff, holdsReasons_of_some ha, holdsReasons_of_some hb, hreasons]
  · exact holdsReasons_of_ne hother hlines x hx

/-- Slots, line reasons and list stay. -/
theorem same (hs : s.NoticesListed) (hslots : ∀ j, t.assocAt j = s.assocAt j)
    (hlines : ∀ l, (t.line l).reasons = (s.line l).reasons) (hatt : t.attention = s.attention) : t.NoticesListed :=
  hs.keep (by rw [hatt]) (fun
    | .slot j => holdsReasons_congr (hslots j)
    | .line l => holdsReasons_line_congr (hlines l)) (hatt ▸ hs.isQuiet)

/-- A record gets a reason; its slot joins the list if it had none. -/
theorem raised (hs : s.NoticesListed) {i : Slot} {a b : Assoc} (ha : s.assocAt i = some a) (hb : t.assocAt i = some b)
    (hother : ∀ j, j ≠ i → t.assocAt j = s.assocAt j) (hreasons : b.reasons ≠ .empty)
    (hlines : ∀ l, (t.line l).reasons = (s.line l).reasons)
    (hatt : t.attention = if a.reasons = .empty then s.attention.join (.slot i) else s.attention) : t.NoticesListed := by
  have hafter := (holdsReasons_of_some hb).2 hreasons
  by_cases he : a.reasons = .empty
  · rw [if_pos he] at hatt
    exact hs.join hatt (fun h => (holdsReasons_of_some ha).1 h he) hafter (holdsReasons_of_ne hother hlines)
  · rw [if_neg he] at hatt
    refine hs.keep (by rw [hatt]) (fun x => ?_) (hatt ▸ hs.isQuiet)
    by_cases hx : x = .slot i
    · rw [hx, hafter, (holdsReasons_of_some ha).2 he]
    · exact holdsReasons_of_ne hother hlines x hx

/-- A record without reasons comes into a FREE slot. -/
theorem create (hs : s.NoticesListed) {i : Slot} {a : Assoc} (hfree : s.assocAt i = none) (hself : t.assocAt i = some a)
    (hother : ∀ j, j ≠ i → t.assocAt j = s.assocAt j) (hreasons : a.reasons = .empty)
    (hlines : ∀ l, (t.line l).reasons = (s.line l).reasons) (hatt : t.attention = s.attention) : t.NoticesListed := by
  refine hs.keep (by rw [hatt]) (fun x => ?_) (hatt ▸ hs.isQuiet)
  by_cases hx : x = .slot i
  · rw [hx, Bool.eq_iff_iff]
    exact iff_of_false (fun h => (holdsReasons_of_some hself).1 h hreasons) (holdsReasons_of_none hfree)
  · exact holdsReasons_of_ne hother hlines x hx

end State.NoticesListed

/-- No source has a reason, and the list is empty. -/
theorem noticesListed_of_empty {t : State} (hslots : ∀ j, t.assocAt j = none) (hlines : ∀ l, (t.line l).reasons = .empty)
    (hlist : t.attention.list = []) (hquiet : t.attention.Quiet) : t.NoticesListed := by
  refine ⟨hlist ▸ List.nodup_nil, fun x => ?_, hquiet⟩
  rw [hlist]
  refine iff_of_false List.not_mem_nil ?_
  cases x with
  | slot j => exact holdsReasons_of_none (hslots j)
  | line l => exact fun h => (holdsReasons_line l).1 h (hlines l)

section Operations

variable {s : State}

theorem noticesListed_setAssoc (hs : s.NoticesListed) {i : Slot} {a b : Assoc} (ha : s.assocAt i = some a)
    (hreasons : b.reasons = a.reasons) : (s.setAssoc i b).NoticesListed :=
  hs.replace ha (assocAt_setAssoc_self s i b) (fun _ hj => assocAt_setAssoc_of_ne s hj b) hreasons (fun _ => rfl) rfl

theorem noticesListed_setLine (hs : s.NoticesListed) {l : Line} {q : LineRecord} (hreasons : q.reasons = (s.line l).reasons) :
    (s.setLine l q).NoticesListed := by
  refine hs.same (fun j => by simp) (fun m => ?_) (by simp)
  by_cases hm : m = l
  · rw [hm, line_setLine_self, hreasons]
  · rw [line_setLine_of_ne s hm]

theorem noticesListed_raiseSlot (hs : s.NoticesListed) {i : Slot} {a : Assoc} (r : SlotReason) (ha : s.assocAt i = some a) :
    (s.raiseSlot i r).NoticesListed :=
  hs.raised ha (assocAt_raiseSlot_self s ha r) (fun _ hj => assocAt_raiseSlot_of_ne hj r) (raise_ne_empty _ _)
    (fun l => by simp) (attention_raiseSlot ha r)

theorem noticesListed_raiseLine (hs : s.NoticesListed) (l : Line) (r : LineReason) : (s.raiseLine l r).NoticesListed := by
  have hself : ((s.raiseLine l r).line l).reasons = (s.line l).reasons.raise r := by
    unfold State.raiseLine
    dsimp only
    split <;> simp
  have hafter : (s.raiseLine l r).holdsReasons (.line l) = true :=
    (holdsReasons_line l).2 (hself ▸ raiseLine_ne_empty _ _)
  have hholds := holdsReasons_of_ne_line (s := s) (t := s.raiseLine l r) (l := l) (fun j => by simp) fun m hm => by
    unfold State.raiseLine
    dsimp only
    split <;> simp [line_setLine_of_ne s hm]
  by_cases he : (s.line l).reasons = .empty
  · refine hs.join (src := .line l) ?_ (fun h => (holdsReasons_line l).1 h he) hafter hholds
    simp [State.raiseLine, LineReasons.isEmpty, he]
  · have hatt : (s.raiseLine l r).attention = s.attention := by simp [State.raiseLine, LineReasons.isEmpty, he]
    refine hs.keep (by rw [hatt]) (fun x => ?_) (hatt ▸ hs.isQuiet)
    by_cases hx : x = .line l
    · rw [hx, hafter, (holdsReasons_line l).2 he]
    · exact hholds x hx

theorem noticesListed_raiseGrant (hs : s.NoticesListed) {i : Slot} {a : Assoc} {n : Nat} (ha : s.assocAt i = some a) :
    (s.raiseGrant i a n).NoticesListed :=
  hs.replace ha (assocAt_raiseGrant_self s i a n) (fun _ hj => assocAt_raiseGrant_of_ne s i a n hj)
    (by rw [raised_eq]) (fun _ => rfl) rfl

/-- Entry to ENDED raises ENDED (R20). -/
theorem noticesListed_endAssoc {c : Claim} (hs : c.st.NoticesListed) {i : Slot} {a : Assoc} (cause : EndCause)
    (ha : c.st.assocAt i = some a) (hl : a.state.isLive = true) : (c.endAssoc i cause).st.NoticesListed := by
  refine hs.raised ha (assocAt_endAssoc_self cause ha hl) (fun _ hj => assocAt_endAssoc_of_ne c i cause hj) ?_
    (fun l => by simp) ?_
  · simp [Assoc.ended, SlotReasons.empty]
  · rw [endAssoc_of_live cause ha hl, update_st, attention_endRecord, releaseAll_st, setPool_attention]

/-- A source whose reason set is emptied has no reasons, and no other source's set changes. -/
theorem emptyReasons_facts (s : State) (src : Source) : (s.emptyReasons src).attention = s.attention ∧
    ¬ (s.emptyReasons src).holdsReasons src = true ∧
    ∀ x, x ≠ src → (s.emptyReasons src).holdsReasons x = s.holdsReasons x := by
  cases src with
  | slot i =>
    cases ha : s.assocAt i with
    | none =>
      have he : s.emptyReasons (.slot i) = s := by simp [State.emptyReasons, ha]
      rw [he]
      exact ⟨rfl, holdsReasons_of_none ha, fun _ _ => rfl⟩
    | some a =>
      have he : s.emptyReasons (.slot i) = s.setAssoc i { a with reasons := .empty } := by simp [State.emptyReasons, ha]
      rw [he]
      exact ⟨rfl, fun h => (holdsReasons_of_some (assocAt_setAssoc_self s i _)).1 h rfl,
        holdsReasons_of_ne (fun j hj => assocAt_setAssoc_of_ne s hj _) fun _ => rfl⟩
  | line l =>
    refine ⟨setLine_attention s l _, fun h => (holdsReasons_line l).1 h ?_, ?_⟩
    · simp [State.emptyReasons]
    · exact holdsReasons_of_ne_line (fun j => by simp [State.emptyReasons])
        fun m hm => by simp [State.emptyReasons, line_setLine_of_ne s hm]

/-- A taken notice empties the reasons of the head of the list (R182). -/
theorem noticesListed_takeNotice (hs : s.NoticesListed) : s.takeNotice.NoticesListed := by
  obtain ⟨-, he⟩ | ⟨src, rest, hlist, he⟩ := takeNotice_cases s
  · exact he ▸ hs.keep rfl (fun x => by cases x <;> rfl) hs.quiet
  have hrest : rest = s.attention.list.filter fun x => x ≠ src := by
    have hout : src ∉ rest := (List.nodup_cons.1 (hlist ▸ hs.once)).1
    rw [hlist, List.filter_cons_of_neg (by simp)]
    refine (List.filter_eq_self.2 fun x hx => ?_).symm
    rw [decide_eq_true_eq]
    rintro rfl
    exact hout hx
  obtain ⟨hatt, hafter, hholds⟩ := emptyReasons_facts s src
  have hblind (t : Attention) (x : Source) :
      ((s.emptyReasons src).setAttention t).holdsReasons x = (s.emptyReasons src).holdsReasons x := by cases x <;> rfl
  rw [he, hatt]
  refine hs.leave (src := src) (by simpa using hrest) ?_ (fun x hx => (hblind _ x).trans (hholds x hx)) ?_
  · rwa [hblind]
  · exact quiet_shorten rest hs.isQuiet

end Operations

theorem noticesListed_law : Law State.NoticesListed :=
  CoreLaw.law
    { frame := fun _ _ _ _ hs => hs.keep rfl (fun x => by cases x <;> rfl) hs.quiet
      settings := fun _ _ _ hs => hs.same (fun _ => rfl) (fun _ => rfl) rfl
      attend := fun t hs hlist hhold => hs.keep hlist (fun x => by cases x <;> rfl) fun hempty => by
        obtain ⟨hstopped, hoff⟩ := hs.quiet (hlist ▸ hempty)
        exact ⟨(hhold hstopped).1, (hhold hstopped).2.trans hoff⟩
      takeNotice := noticesListed_takeNotice
      control := fun _ hs _ => hs.keep rfl (fun x => by cases x <;> rfl) hs.quiet
      revise := fun hs ha hab => noticesListed_setAssoc hs ha hab.reasons
      reviseLine := fun hs hq => noticesListed_setLine hs hq.reasons
      raiseSlot := fun r hs ha => noticesListed_raiseSlot hs r ha
      raiseLine := fun l r hs => noticesListed_raiseLine hs l r
      raiseGrant := fun hs ha _ _ _ => noticesListed_raiseGrant hs ha
      endAssoc := fun cause hs ha hl => noticesListed_endAssoc hs cause ha hl
      opening := fun {s} {i} k p hs _ _ hfree _ => hs.create hfree (assocAt_create_self s i _)
        (fun _ hj => assocAt_create_of_ne s i hj _) rfl (fun _ => by simp) rfl
      admission := fun {s} {l} {f} {limit} {credit} {n} {i} hs _ _ hfree _ => by
        obtain ⟨a, he, -, -, -, -, -, -, -, hreasons⟩ := admittedAssoc_facts l f limit credit n (s.listenAt n)
        exact hs.create hfree (he ▸ assocAt_admitted_self s l f limit credit n i)
          (fun _ hj => assocAt_admitted_of_ne s i l f limit credit n hj) hreasons (fun _ => by simp) rfl
      submit := fun {s} {i} {a} {b} n hs ha _ _ _ => by
        obtain ⟨x, he⟩ := submitted_facts a b n
        rw [he]
        exact hs.replace ha (assocAt_setAssoc_self _ i _) (fun _ hj => assocAt_setAssoc_of_ne _ hj _) rfl (fun _ => rfl) rfl
      takeMessage := fun {s} {i} {a} {e} {rest} hs ha _ =>
        (noticesListed_setAssoc (b := { a with inboundQueue := rest }) hs ha rfl).same (fun _ => rfl) (fun _ => rfl) rfl
      allocate := fun hs _ _ => hs.same (fun _ => rfl) (fun _ => rfl) rfl
      giveBuffer := fun hs _ => hs.same (fun _ => rfl) (fun _ => rfl) rfl
      release := fun {c} {i} {a} hs ha _ => by
        have hatt : (c.release i a).st.attention = c.st.attention.leave (.slot i) := by rw [release_st]; rfl
        refine hs.leave (src := .slot i) ?_ (holdsReasons_of_none (assocAt_release_self i c a)) ?_ ?_
        · rw [hatt, Attention.leave, list_shorten]
        · exact holdsReasons_of_ne (fun _ hj => assocAt_release_of_ne i c a hj) fun l => by rw [release_st]; rfl
        · rw [hatt]
          exact quiet_shorten _ hs.isQuiet
      receipted := fun {c} {i} {a} {next} {credit} hs ha hsend _ _ => by
        obtain ⟨b, he, -, -, -, -, -, hreasons, -⟩ := receipted_facts next credit hsend
        rw [he, releaseAll_st]
        exact hs.replace ha (assocAt_setAssoc_self _ i _) (fun _ hj => assocAt_setAssoc_of_ne _ hj _) hreasons
          (fun _ => rfl) rfl
      send := fun _ _ hs _ _ _ _ => noticesListed_setLine hs rfl
      frameEnd := fun out hs _ => by
        rw [update_st, retire_frame]
        refine noticesListed_setLine ?_ rfl
        exact hs.same (fun _ => rfl) (fun _ => rfl) rfl
      listenSet := fun _ hs _ => hs.same (fun _ => rfl) (fun _ => rfl) rfl
      clearAll := fun {s} _ _ => noticesListed_of_empty (fun j => assocAt_clearAll s j)
        (fun l => by rw [line_clearAll]; rfl) rfl fun _ => ⟨rfl, rfl⟩ }
    (fun hs ha _ _ => noticesListed_raiseGrant hs ha)
    (fun {s} {l} {f} {limit} {credit} {n} {i} hs hfree => by
      obtain ⟨a, he, -, -, -, -, -, -, -, hreasons⟩ := admittedAssoc_facts l f limit credit n (s.listenAt n)
      exact hs.create hfree (he ▸ assocAt_admitted_self s l f limit credit n i)
        (fun _ hj => assocAt_admitted_of_ne s i l f limit credit n hj) hreasons (fun _ => by simp) rfl)
    (fun hs hreasons _ => noticesListed_setLine hs hreasons)

theorem noticesListed_writeLaw : WriteLaw State.NoticesListed where
  deviceReset := fun {s} b _ => noticesListed_of_empty (fun j => assocAt_deviceReset s j b)
    (fun l => by rw [line_deviceReset]; rfl) rfl fun _ => ⟨rfl, rfl⟩
  acceptData := fun {s} {i} {a} {payload} {b} {rest} hs ha _ _ _ _ => by
    obtain ⟨x, y, he⟩ := acceptedData_facts a b payload.length
    rw [he]
    exact hs.replace ha (assocAt_setAssoc_self _ i _) (fun _ hj => assocAt_setAssoc_of_ne _ hj _) rfl (fun _ => rfl) rfl
  writeWindow := fun _ _ _ _ hs => hs.same (fun _ => rfl) (fun _ => rfl) rfl

/-- Settles O8: every raise joins the list with a source's first reason, and a source leaves it with its last. -/
theorem noticesStayListed : Obligations.NoticesStayListed :=
  fun _ _ hs ht => noticesListed_law.step noticesListed_writeLaw
    (fun _ _ hs => hs.same (fun _ => rfl) (fun _ => rfl) rfl) hs ht

end Sys2Proof.Machine
end

section
/-! The law of the buffers (R124 to R126, R129): each is held in one place. In this file the places are counted per buffer: a free
list, send queues and inbound queues that hold each buffer once, exactly where its state says. -/

namespace Sys2Proof.Machine

/-! ### Lists without repetition by count -/

/-- A list that holds once exactly the members of a set, by count. -/
theorem nodup_and_mem_iff_count {α : Type} [DecidableEq α] {xs : List α} {p : α → Prop} [DecidablePred p] :
    (xs.Nodup ∧ ∀ b, b ∈ xs ↔ p b) ↔ ∀ b, xs.count b = if p b then 1 else 0 := by
  constructor
  · rintro ⟨honce, hmem⟩ b
    split
    · exact List.count_eq_one_of_mem honce ((hmem b).2 ‹_›)
    · exact List.count_eq_zero_of_not_mem fun h => absurd ((hmem b).1 h) ‹_›
  · intro h
    refine ⟨List.nodup_iff_count_le_one.2 fun b => ?_, fun b => ?_⟩
    · rw [h]
      split <;> omega
    · rw [← List.count_pos_iff, h]
      split <;> simp_all

/-! ### The places of a slot -/

/-- The buffers of a slot's send queue. -/
def State.outAt (s : State) (i : Slot) : List BufferNo := (s.assocAt i).elim [] fun a => a.sendQueue.map (·.buffer)

/-- The buffers of a slot's inbound queue. -/
def State.inAt (s : State) (i : Slot) : List BufferNo := (s.assocAt i).elim [] fun a => a.inboundQueue.map (·.buffer)

/-- Slot `i` holds an association of line `l` with buffer `b` in its send queue. -/
def State.QueuedAt (s : State) (i : Slot) (l : Line) (b : BufferNo) : Prop :=
  ∃ a, s.assocAt i = some a ∧ a.key.line = l ∧ b ∈ a.sendQueue.map (·.buffer)

/-- 1 if the buffer is in the state, else 0. -/
def State.isIn (s : State) (b : BufferNo) (x : BufferState) : Nat := if s.bufferStateAt b = x then 1 else 0

/-- The law with its three lists counted. -/
structure State.BuffersCounted (s : State) : Prop where
  free : ∀ b, s.pool.freeList.count b = s.isIn b .free
  outbound : ∀ b, (allSlots.map fun i => (s.outAt i).count b).sum = s.isIn b .outbound
  inbound : ∀ b, (allSlots.map fun i => (s.inAt i).count b).sum = s.isIn b .inbound
  retiring : ∀ l b, s.bufferStateAt b = .retiring l → s.inFlight l = some b
  flight : ∀ l b, s.inFlight l = some b → s.bufferStateAt b = .retiring l ∨ ∃ i, s.QueuedAt i l b
  ended : ∀ i a, s.assocAt i = some a → a.state.isLive = false → a.sendQueue = []

theorem buffersHeld_iff (s : State) : s.BuffersHeld ↔ s.BuffersCounted := by
  have hcount (f : Slot → List BufferNo) (b : BufferNo) :
      (allSlots.flatMap f).count b = (allSlots.map fun i => (f i).count b).sum := List.count_flatMap
  constructor
  · intro hs
    exact ⟨nodup_and_mem_iff_count.1 ⟨hs.freeOnce, hs.free⟩,
      fun b => (hcount s.outAt b).symm.trans (nodup_and_mem_iff_count.1 ⟨hs.outboundOnce, hs.outbound⟩ b),
      fun b => (hcount s.inAt b).symm.trans (nodup_and_mem_iff_count.1 ⟨hs.inboundOnce, hs.inbound⟩ b),
      hs.retiring, hs.flight, hs.ended⟩
  · intro hs
    obtain ⟨hfreeOnce, hfree⟩ := nodup_and_mem_iff_count.2 hs.free
    obtain ⟨houtOnce, hout⟩ := nodup_and_mem_iff_count.2 fun b => (hcount s.outAt b).trans (hs.outbound b)
    obtain ⟨hinOnce, hin⟩ := nodup_and_mem_iff_count.2 fun b => (hcount s.inAt b).trans (hs.inbound b)
    exact ⟨hfreeOnce, hfree, houtOnce, hout, hinOnce, hin, hs.retiring, hs.flight, hs.ended⟩

section Places

variable {s t : State} {i : Slot}

theorem outAt_of_some {a : Assoc} (h : s.assocAt i = some a) : s.outAt i = a.sendQueue.map (·.buffer) := by
  simp [State.outAt, h]

theorem inAt_of_some {a : Assoc} (h : s.assocAt i = some a) : s.inAt i = a.inboundQueue.map (·.buffer) := by
  simp [State.inAt, h]

theorem outAt_of_none (h : s.assocAt i = none) : s.outAt i = [] := by simp [State.outAt, h]

theorem inAt_of_none (h : s.assocAt i = none) : s.inAt i = [] := by simp [State.inAt, h]

theorem outAt_congr (h : t.assocAt i = s.assocAt i) : t.outAt i = s.outAt i := by rw [State.outAt, State.outAt, h]

theorem inAt_congr (h : t.assocAt i = s.assocAt i) : t.inAt i = s.inAt i := by rw [State.inAt, State.inAt, h]

theorem queuedAt_congr {l : Line} {b : BufferNo} (h : t.assocAt i = s.assocAt i) : t.QueuedAt i l b ↔ s.QueuedAt i l b := by
  rw [State.QueuedAt, State.QueuedAt, h]

theorem queuedAt_of_some {a : Assoc} (h : s.assocAt i = some a) {l : Line} {b : BufferNo} :
    s.QueuedAt i l b ↔ a.key.line = l ∧ b ∈ a.sendQueue.map (·.buffer) := by
  constructor
  · rintro ⟨x, hx, hq⟩
    rw [h] at hx
    cases hx
    exact hq
  · exact fun hq => ⟨a, h, hq⟩

end Places

namespace State.BuffersCounted

variable {s t : State}

/-- A buffer of a send queue is OUTBOUND (R126). -/
theorem outbound_of_mem (hs : s.BuffersCounted) {i : Slot} {b : BufferNo} (h : b ∈ s.outAt i) :
    s.bufferStateAt b = .outbound := by
  have hle : (s.outAt i).count b ≤ s.isIn b .outbound := hs.outbound b ▸ le_sum_slots (fun j => (s.outAt j).count b) i
  have hpos : 0 < (s.outAt i).count b := List.count_pos_iff.2 h
  unfold State.isIn at hle
  by_contra hne
  rw [if_neg hne] at hle
  omega

theorem outbound_of_queuedAt (hs : s.BuffersCounted) {i : Slot} {l : Line} {b : BufferNo} (h : s.QueuedAt i l b) :
    s.bufferStateAt b = .outbound := by
  obtain ⟨a, ha, -, hb⟩ := h
  exact hs.outbound_of_mem (i := i) (outAt_of_some ha ▸ hb)

/-- A buffer of an inbound queue is INBOUND (R126). -/
theorem inbound_of_mem (hs : s.BuffersCounted) {i : Slot} {b : BufferNo} (h : b ∈ s.inAt i) :
    s.bufferStateAt b = .inbound := by
  have hle : (s.inAt i).count b ≤ s.isIn b .inbound := hs.inbound b ▸ le_sum_slots (fun j => (s.inAt j).count b) i
  have hpos : 0 < (s.inAt i).count b := List.count_pos_iff.2 h
  unfold State.isIn at hle
  by_contra hne
  rw [if_neg hne] at hle
  omega

theorem free_of_mem (hs : s.BuffersCounted) {b : BufferNo} (h : b ∈ s.pool.freeList) : s.bufferStateAt b = .free := by
  have hpos : 0 < s.pool.freeList.count b := List.count_pos_iff.2 h
  rw [hs.free, State.isIn] at hpos
  by_contra hne
  rw [if_neg hne] at hpos
  omega

/-- A slot's send queue has no buffer twice. -/
theorem count_outAt_le (hs : s.BuffersCounted) (i : Slot) (b : BufferNo) : (s.outAt i).count b ≤ 1 := by
  have hle : (s.outAt i).count b ≤ s.isIn b .outbound := hs.outbound b ▸ le_sum_slots (fun j => (s.outAt j).count b) i
  unfold State.isIn at hle
  split at hle <;> omega

theorem count_inAt_le (hs : s.BuffersCounted) (i : Slot) (b : BufferNo) : (s.inAt i).count b ≤ 1 := by
  have hle : (s.inAt i).count b ≤ s.isIn b .inbound := hs.inbound b ▸ le_sum_slots (fun j => (s.inAt j).count b) i
  unfold State.isIn at hle
  split at hle <;> omega

/-- A buffer in flight is RETIRING or OUTBOUND. -/
theorem state_of_inFlight (hs : s.BuffersCounted) {l : Line} {b : BufferNo} (h : s.inFlight l = some b) :
    s.bufferStateAt b = .retiring l ∨ s.bufferStateAt b = .outbound := by
  obtain hret | ⟨i, hq⟩ := hs.flight l b h
  · exact .inl hret
  · exact .inr (hs.outbound_of_queuedAt hq)

/-- One slot changes, and the states of buffers with it; the transmitters stay. -/
theorem change (hs : s.BuffersCounted) (i : Slot) (hother : ∀ j, j ≠ i → t.assocAt j = s.assocAt j)
    (hfree : ∀ b, t.pool.freeList.count b + s.isIn b .free = s.pool.freeList.count b + t.isIn b .free)
    (hout : ∀ b, (t.outAt i).count b + s.isIn b .outbound = (s.outAt i).count b + t.isIn b .outbound)
    (hin : ∀ b, (t.inAt i).count b + s.isIn b .inbound = (s.inAt i).count b + t.isIn b .inbound)
    (hflight : ∀ l, t.inFlight l = s.inFlight l)
    (hretiring : ∀ l b, t.bufferStateAt b = .retiring l → s.bufferStateAt b = .retiring l ∨ s.inFlight l = some b)
    (hstay : ∀ l b, s.bufferStateAt b = .retiring l → t.bufferStateAt b = .retiring l)
    (hqueued : ∀ l b, s.QueuedAt i l b → s.inFlight l = some b → t.bufferStateAt b = .retiring l ∨ t.QueuedAt i l b)
    (hended : ∀ a, t.assocAt i = some a → a.state.isLive = false → a.sendQueue = []) : t.BuffersCounted where
  free := fun b => by have := hs.free b; have := hfree b; omega
  outbound := fun b => by
    have hsum := sum_slots_change (f := fun j => (s.outAt j).count b) (g := fun j => (t.outAt j).count b) i
      fun j hj => by rw [outAt_congr (hother j hj)]
    have := hs.outbound b
    have := hout b
    omega
  inbound := fun b => by
    have hsum := sum_slots_change (f := fun j => (s.inAt j).count b) (g := fun j => (t.inAt j).count b) i
      fun j hj => by rw [inAt_congr (hother j hj)]
    have := hs.inbound b
    have := hin b
    omega
  retiring := fun l b h => (hflight l).trans ((hretiring l b h).elim (hs.retiring l b) id)
  flight := fun l b h => by
    rw [hflight] at h
    obtain hret | ⟨j, hq⟩ := hs.flight l b h
    · exact .inl (hstay l b hret)
    · by_cases hj : j = i
      · exact (hqueued l b (hj ▸ hq) h).imp_right fun hq => ⟨i, hq⟩
      · exact .inr ⟨j, (queuedAt_congr (hother j hj)).2 hq⟩
  ended := fun j a ha hl => by
    by_cases hj : j = i
    · exact hended a (hj ▸ ha) hl
    · exact hs.ended j a (hother j hj ▸ ha) hl

end State.BuffersCounted

end Sys2Proof.Machine
end

section
/-! The operations and the law of the buffers. -/

namespace Sys2Proof.Machine

theorem count_concat (xs : List BufferNo) (x b : BufferNo) :
    (xs ++ [x]).count b = xs.count b + if b = x then 1 else 0 := by
  rw [List.count_append]
  by_cases h : b = x
  · rw [if_pos h, h, List.count_singleton_self]
  · rw [if_neg h, List.count_eq_zero_of_not_mem (l := [x]) (by rwa [List.mem_singleton])]

theorem count_cons_eq (xs : List BufferNo) (x b : BufferNo) :
    (x :: xs).count b = xs.count b + if b = x then 1 else 0 := by
  rw [← List.singleton_append, List.count_append, Nat.add_comm, ← List.count_append, count_concat]

theorem isIn_congr {s t : State} {b : BufferNo} (h : t.bufferStateAt b = s.bufferStateAt b) (x : BufferState) :
    t.isIn b x = s.isIn b x := by rw [State.isIn, State.isIn, h]

/-- Where one buffer changes its state, a list that changes with it in that buffer alone keeps counting. -/
theorem count_moved {s t : State} {x : BufferNo} {q : BufferState}
    (hstate : ∀ b, t.bufferStateAt b = if b = x then q else s.bufferStateAt b) {p : BufferState} {xs ys : List BufferNo}
    (h : ∀ b, ys.count b + (if b = x then s.isIn x p else 0) = xs.count b + if b = x then (if q = p then 1 else 0) else 0)
    (b : BufferNo) : ys.count b + s.isIn b p = xs.count b + t.isIn b p := by
  have hb := h b
  by_cases hx : b = x
  · subst hx
    rw [if_pos rfl, if_pos rfl] at hb
    rw [hb, State.isIn, hstate, if_pos rfl]
  · rw [if_neg hx, if_neg hx] at hb
    have hkept : t.isIn b p = s.isIn b p := isIn_congr (by rw [hstate, if_neg hx]) p
    omega

namespace State.BuffersCounted

variable {s t : State}

/-- Nothing that the law looks at changes. -/
theorem same (hs : s.BuffersCounted) (hslots : ∀ j, t.assocAt j = s.assocAt j) (hfree : t.pool.freeList = s.pool.freeList)
    (hstate : ∀ b, t.bufferStateAt b = s.bufferStateAt b) (hflight : ∀ l, t.inFlight l = s.inFlight l) :
    t.BuffersCounted :=
  hs.change 0 (fun j _ => hslots j) (fun b => by rw [hfree, isIn_congr (hstate b)])
    (fun b => by rw [outAt_congr (hslots 0), isIn_congr (hstate b)])
    (fun b => by rw [inAt_congr (hslots 0), isIn_congr (hstate b)]) hflight (fun l b h => .inl (hstate b ▸ h))
    (fun l b h => hstate b ▸ h) (fun l b hq _ => .inr ((queuedAt_congr (hslots 0)).2 hq))
    fun a ha => hs.ended 0 a (hslots 0 ▸ ha)

/-- A record is replaced by one with the same key, liveness and queues. -/
theorem replace (hs : s.BuffersCounted) {i : Slot} {a b : Assoc} (ha : s.assocAt i = some a) (hb : t.assocAt i = some b)
    (hother : ∀ j, j ≠ i → t.assocAt j = s.assocAt j) (hkey : b.key = a.key) (hlive : b.state.isLive = a.state.isLive)
    (hsend : b.sendQueue = a.sendQueue) (hinq : b.inboundQueue = a.inboundQueue)
    (hfree : t.pool.freeList = s.pool.freeList) (hstate : ∀ b, t.bufferStateAt b = s.bufferStateAt b)
    (hflight : ∀ l, t.inFlight l = s.inFlight l) : t.BuffersCounted :=
  hs.change i hother (fun x => by rw [hfree, isIn_congr (hstate x)])
    (fun x => by rw [outAt_of_some ha, outAt_of_some hb, hsend, isIn_congr (hstate x)])
    (fun x => by rw [inAt_of_some ha, inAt_of_some hb, hinq, isIn_congr (hstate x)]) hflight
    (fun l x h => .inl (hstate x ▸ h)) (fun l x h => hstate x ▸ h)
    (fun l x hq _ => .inr (by rwa [queuedAt_of_some hb, hkey, hsend, ← queuedAt_of_some ha]))
    fun x hx hl => by
      rw [hb] at hx
      cases hx
      rw [hsend]
      exact hs.ended i a ha (hlive.symm.trans hl)

/-- One buffer that is neither in a send queue nor in flight changes its place. The three lists move with its state. -/
theorem move (hs : s.BuffersCounted) (i : Slot) {x : BufferNo} {q : BufferState}
    (hother : ∀ j, j ≠ i → t.assocAt j = s.assocAt j)
    (hstate : ∀ b, t.bufferStateAt b = if b = x then q else s.bufferStateAt b)
    (hret : ∀ l, s.bufferStateAt x ≠ .retiring l) (hq : ∀ l, q ≠ .retiring l)
    (hfree : ∀ b, t.pool.freeList.count b + (if b = x then s.isIn x .free else 0) =
      s.pool.freeList.count b + if b = x then (if q = .free then 1 else 0) else 0)
    (hout : ∀ b, (t.outAt i).count b + (if b = x then s.isIn x .outbound else 0) =
      (s.outAt i).count b + if b = x then (if q = .outbound then 1 else 0) else 0)
    (hin : ∀ b, (t.inAt i).count b + (if b = x then s.isIn x .inbound else 0) =
      (s.inAt i).count b + if b = x then (if q = .inbound then 1 else 0) else 0)
    (hflight : ∀ l, t.inFlight l = s.inFlight l) (hqueued : ∀ l b, s.QueuedAt i l b → t.QueuedAt i l b)
    (hended : ∀ a, t.assocAt i = some a → a.state.isLive = false → a.sendQueue = []) : t.BuffersCounted := by
  refine hs.change i hother (count_moved hstate hfree) (count_moved hstate hout) (count_moved hstate hin) hflight
    (fun l b h => ?_) (fun l b h => ?_) (fun l b hq _ => .inr (hqueued l b hq)) hended
  · rw [hstate] at h
    split at h
    · exact absurd h (hq l)
    · exact .inl h
  · have hb : b ≠ x := by
      rintro rfl
      exact hret l h
    rw [hstate, if_neg hb]
    exact h

/-- Buffers of a record's send queue are released: RETIRING if in flight on its line, else returned to the free list in queue order
(R20, R74, R129). -/
theorem released (hs : s.BuffersCounted) {i : Slot} {a b : Assoc} {es : List SendEntry} (ha : s.assocAt i = some a)
    (hb : t.assocAt i = some b) (hother : ∀ j, j ≠ i → t.assocAt j = s.assocAt j)
    (hsplit : a.sendQueue = es ++ b.sendQueue) (hinq : b.inboundQueue = a.inboundQueue) (hkey : b.key = a.key)
    (hlive : b.state.isLive = false → b.sendQueue = [])
    (hfree : t.pool.freeList =
      s.pool.freeList ++ (es.map (·.buffer)).filter fun x => s.inFlight a.key.line ≠ some x)
    (hstate : ∀ x, t.bufferStateAt x = if x ∈ es.map (·.buffer) then
      (if s.inFlight a.key.line = some x then .retiring a.key.line else .free) else s.bufferStateAt x)
    (hflight : ∀ l, t.inFlight l = s.inFlight l) : t.BuffersCounted := by
  have hqueue : s.outAt i = es.map (·.buffer) ++ b.sendQueue.map (·.buffer) := by
    rw [outAt_of_some ha, hsplit, List.map_append]
  have hgone {x : BufferNo} (hx : x ∈ es.map (·.buffer)) : s.bufferStateAt x = .outbound :=
    hs.outbound_of_mem (i := i) (hqueue ▸ List.mem_append_left _ hx)
  have honce {x : BufferNo} (hx : x ∈ es.map (·.buffer)) : (es.map (·.buffer)).count x = 1 := by
    have hle := hs.count_outAt_le i x
    have hpos : 0 < (es.map (·.buffer)).count x := List.count_pos_iff.2 hx
    rw [hqueue, List.count_append] at hle
    omega
  have hstay {x : BufferNo} (hx : x ∉ es.map (·.buffer)) : t.bufferStateAt x = s.bufferStateAt x := by
    rw [hstate, if_neg hx]
  refine hs.change i hother (fun x => ?_) (fun x => ?_) (fun x => ?_) hflight (fun l x h => ?_) (fun l x h => ?_)
    (fun l x hq hfl => ?_) fun y hy hl => ?_
  · rw [hfree, List.count_append]
    by_cases hx : x ∈ es.map (·.buffer)
    · rw [show s.isIn x .free = 0 by rw [State.isIn, hgone hx]; rfl, State.isIn, hstate, if_pos hx]
      by_cases hfl : s.inFlight a.key.line = some x
      · have hnone : x ∉ (es.map (·.buffer)).filter fun y => s.inFlight a.key.line ≠ some y := fun h => by
          simpa [hfl] using List.of_mem_filter h
        rw [List.count_eq_zero_of_not_mem hnone, if_pos hfl]
        rfl
      · rw [List.count_filter (by simpa using hfl), honce hx, if_neg hfl]
        rfl
    · have hnone : x ∉ (es.map (·.buffer)).filter fun y => s.inFlight a.key.line ≠ some y :=
        fun h => hx (List.mem_of_mem_filter h)
      rw [isIn_congr (hstay hx), List.count_eq_zero_of_not_mem hnone]
      rfl
  · rw [hqueue, outAt_of_some hb, List.count_append]
    by_cases hx : x ∈ es.map (·.buffer)
    · have hnot : t.isIn x .outbound = 0 := by
        rw [State.isIn, hstate, if_pos hx]
        split <;> rfl
      rw [show s.isIn x .outbound = 1 by rw [State.isIn, hgone hx]; rfl, hnot, honce hx]
      omega
    · rw [isIn_congr (hstay hx), List.count_eq_zero_of_not_mem hx]
      omega
  · rw [inAt_of_some ha, inAt_of_some hb, hinq]
    by_cases hx : x ∈ es.map (·.buffer)
    · have hnot : t.isIn x .inbound = 0 := by
        rw [State.isIn, hstate, if_pos hx]
        split <;> rfl
      rw [show s.isIn x .inbound = 0 by rw [State.isIn, hgone hx]; rfl, hnot]
    · rw [isIn_congr (hstay hx)]
  · rw [hstate] at h
    split at h
    · split at h
      · cases h
        exact .inr ‹_›
      · cases h
    · exact .inl h
  · have hx : x ∉ es.map (·.buffer) := fun hx => by
      rw [hgone hx] at h
      cases h
    rw [hstay hx]
    exact h
  · obtain ⟨hl, hmem⟩ := (queuedAt_of_some ha).1 hq
    rw [hsplit, List.map_append, List.mem_append] at hmem
    by_cases hx : x ∈ es.map (·.buffer)
    · left
      rw [hstate, if_pos hx, hl, if_pos hfl]
    · exact .inr ((queuedAt_of_some hb).2 ⟨hkey ▸ hl, hmem.resolve_left hx⟩)
  · rw [hb] at hy
    cases hy
    exact hlive hl

end State.BuffersCounted

/-- An empty table, all buffers free, and no frame with a buffer. -/
theorem buffersCounted_of_empty {t : State} (hslots : ∀ j, t.assocAt j = none) (hfree : t.pool.freeList = allBuffers)
    (hstate : ∀ b, t.bufferStateAt b = .free) (hflight : ∀ l, t.inFlight l = none) : t.BuffersCounted where
  free := fun b => by
    rw [State.isIn, hstate, if_pos rfl, hfree]
    exact List.count_eq_one_of_mem (List.nodup_ofFn.2 fun _ _ h => h) (List.mem_ofFn.2 ⟨b, rfl⟩)
  outbound := fun b => by
    have hzero : (allSlots.map fun i => (t.outAt i).count b) = allSlots.map fun _ => 0 :=
      List.map_congr_left fun j _ => by rw [outAt_of_none (hslots j)]; rfl
    rw [hzero, State.isIn, hstate]
    simp
  inbound := fun b => by
    have hzero : (allSlots.map fun i => (t.inAt i).count b) = allSlots.map fun _ => 0 :=
      List.map_congr_left fun j _ => by rw [inAt_of_none (hslots j)]; rfl
    rw [hzero, State.isIn, hstate]
    simp
  retiring := fun l b h => by rw [hstate] at h; cases h
  flight := fun l b h => by rw [hflight] at h; cases h
  ended := fun i a ha => by rw [hslots] at ha; cases ha

end Sys2Proof.Machine
end

section
/-! Settling the law of the buffers: transmitters, then each operation. -/

namespace Sys2Proof.Machine

section Transmitters

variable {s : State} {l : Line}

theorem inFlight_of_tx {t : State} {m : Line} (h : (t.line m).tx = (s.line m).tx) : t.inFlight m = s.inFlight m := by
  rw [State.inFlight, State.inFlight, h]

theorem inFlight_of_idle (h : (s.line l).tx = .idle) : s.inFlight l = none := by rw [State.inFlight, h]

theorem inFlight_of_sending {r : TxRecord} (h : (s.line l).tx = .sending r) : s.inFlight l = r.buffer := by
  rw [State.inFlight, h]

theorem inFlight_setLine_of_ne {m : Line} (h : m ≠ l) (q : LineRecord) : (s.setLine l q).inFlight m = s.inFlight m :=
  inFlight_of_tx (by rw [line_setLine_of_ne s h])

theorem tx_idle_of_mayBegin (h : s.mayBegin l = true) : (s.line l).tx = .idle := by
  simp only [State.mayBegin, Bool.and_eq_true, decide_eq_true_eq] at h
  exact h.1.1

theorem buffersCounted_setLine (hs : s.BuffersCounted) {q : LineRecord} (htx : q.tx = (s.line l).tx) :
    (s.setLine l q).BuffersCounted := by
  refine hs.same (fun j => by simp) (by simp) (fun b => by simp [State.bufferStateAt]) fun m => ?_
  by_cases hm : m = l
  · subst hm
    exact inFlight_of_tx (by simp [htx])
  · exact inFlight_setLine_of_ne hm q

/-- The transmitters change, and with them at most which buffers are FREE and which RETIRING. -/
theorem State.BuffersCounted.transmit {t : State} (hs : s.BuffersCounted) (hslots : ∀ j, t.assocAt j = s.assocAt j)
    (hfree : ∀ b, t.pool.freeList.count b = t.isIn b .free) (hout : ∀ b, t.isIn b .outbound = s.isIn b .outbound)
    (hin : ∀ b, t.isIn b .inbound = s.isIn b .inbound)
    (hretiring : ∀ m b, t.bufferStateAt b = .retiring m → t.inFlight m = some b)
    (hflight : ∀ m b, t.inFlight m = some b → t.bufferStateAt b = .retiring m ∨ ∃ i, s.QueuedAt i m b) :
    t.BuffersCounted where
  free := hfree
  outbound := fun b => by simp only [outAt_congr (hslots _), hout, hs.outbound]
  inbound := fun b => by simp only [inAt_congr (hslots _), hin, hs.inbound]
  retiring := hretiring
  flight := fun m b h => (hflight m b h).imp_right fun ⟨i, hq⟩ => ⟨i, (queuedAt_congr (hslots i)).2 hq⟩
  ended := fun i a ha => hs.ended i a (hslots i ▸ ha)

/-- One transmitter changes and no buffer's state: what is in flight then is what is RETIRING or a queued buffer of the line. -/
theorem buffersCounted_retransmit (hs : s.BuffersCounted) {q : LineRecord}
    (hretiring : ∀ b, s.bufferStateAt b = .retiring l → (s.setLine l q).inFlight l = some b)
    (hflight : ∀ b, (s.setLine l q).inFlight l = some b → ∃ i, s.QueuedAt i l b) : (s.setLine l q).BuffersCounted := by
  have hstate (b : BufferNo) : (s.setLine l q).bufferStateAt b = s.bufferStateAt b := by simp [State.bufferStateAt]
  refine hs.transmit (fun j => by simp) (fun b => by rw [setLine_pool, isIn_congr (hstate b), hs.free])
    (fun b => isIn_congr (hstate b) _) (fun b => isIn_congr (hstate b) _) (fun m b h => ?_) fun m b h => ?_
  · rw [hstate] at h
    by_cases hm : m = l
    · exact hm ▸ hretiring b (hm ▸ h)
    · rw [inFlight_setLine_of_ne hm, hs.retiring m b h]
  · rw [hstate]
    by_cases hm : m = l
    · exact .inr (hm ▸ hflight b (hm ▸ h))
    · rw [inFlight_setLine_of_ne hm] at h
      exact hs.flight m b h

/-- A begin puts a buffer of the line's own send queues in flight, or none, where nothing was in flight (R129, R148). -/
theorem buffersCounted_send (hs : s.BuffersCounted) {q : LineRecord} {r : TxRecord} (hidle : (s.line l).tx = .idle)
    (htx : q.tx = .sending r) (hbuffer : ∀ x, r.buffer = some x → ∃ i, s.QueuedAt i l x) :
    (s.setLine l q).BuffersCounted := by
  have hself : (s.setLine l q).inFlight l = r.buffer := inFlight_of_sending (by simp [htx])
  refine buffersCounted_retransmit hs (fun b h => ?_) fun b h => hbuffer b (hself ▸ h)
  have hold := hs.retiring l b h
  rw [inFlight_of_idle hidle] at hold
  cases hold

/-- At the end of a frame nothing is in flight; its buffer is returned if it is RETIRING (R129, R149). -/
theorem buffersCounted_frameEnd (hs : s.BuffersCounted) {r : TxRecord} (out : TxOutput) (htx : (s.line l).tx = .sending r) :
    (((Claim.begin s).retire r.buffer).update fun t =>
      t.setLine l { t.line l with tx := .idle, txOut := out }).st.BuffersCounted := by
  have hfl : s.inFlight l = r.buffer := inFlight_of_sending htx
  have hnone (t : State) : (t.setLine l { t.line l with tx := .idle, txOut := out }).inFlight l = none :=
    inFlight_of_idle (by simp)
  rw [update_st]
  obtain ⟨hnot, he⟩ | ⟨x, m, hx, hret, he⟩ := retire_cases (Claim.begin s) r.buffer
  · rw [he]
    refine buffersCounted_retransmit hs (fun b h => ?_) fun b h => ?_
    · exact absurd h (hnot b l (hfl ▸ hs.retiring l b h))
    · have := hnone s
      rw [begin_st, this] at h
      cases h
  · have hsx : s.bufferStateAt x = .retiring m := hret
    have hm : m = l := by
      obtain hl | ho := hs.state_of_inFlight (hfl.trans hx)
      · rw [hsx] at hl
        cases hl
        rfl
      · rw [hsx] at ho
        cases ho
    subst hm
    rw [he]
    generalize ht : ((Claim.begin s).returnBuffer x).st = t
    have hstate (b : BufferNo) : t.bufferStateAt b = if b = x then .free else s.bufferStateAt b := by
      rw [← ht]
      exact bufferStateAt_setState s x b .free
    have hfree : t.pool.freeList = s.pool.freeList ++ [x] := by rw [← ht]; rfl
    have hother {n : Line} (hn : n ≠ m) :
        (t.setLine m { t.line m with tx := .idle, txOut := out }).inFlight n = s.inFlight n := by
      rw [inFlight_setLine_of_ne hn, ← ht]
      rfl
    have hset (b : BufferNo) : (t.setLine m { t.line m with tx := .idle, txOut := out }).bufferStateAt b = t.bufferStateAt b := by
      simp [State.bufferStateAt]
    refine hs.transmit (fun j => by rw [assocAt_setLine, ← ht]; rfl) (fun b => ?_) (fun b => ?_) (fun b => ?_)
      (fun n b h => ?_) fun n b h => ?_
    · rw [setLine_pool, hfree, count_concat, hs.free, isIn_congr (hset b), State.isIn, State.isIn, hstate]
      by_cases hb : b = x
      · subst hb
        simp [hsx]
      · simp [hb]
    · rw [isIn_congr (hset b), State.isIn, State.isIn, hstate]
      by_cases hb : b = x
      · subst hb
        simp [hsx]
      · simp [hb]
    · rw [isIn_congr (hset b), State.isIn, State.isIn, hstate]
      by_cases hb : b = x
      · subst hb
        simp [hsx]
      · simp [hb]
    · rw [hset, hstate] at h
      split at h
      · cases h
      · rename_i hne
        have hold := hs.retiring n b h
        have hn : n ≠ m := by
          rintro rfl
          rw [hfl, hx] at hold
          cases hold
          exact hne rfl
        rw [hother hn, hold]
    · have hn : n ≠ m := by
        rintro rfl
        rw [hnone] at h
        cases h
      rw [hother hn] at h
      refine (hs.flight n b h).imp_left fun hb => ?_
      have hne : b ≠ x := by
        rintro rfl
        rw [hsx] at hb
        cases hb
        exact hn rfl
      rw [hset, hstate, if_neg hne, hb]

end Transmitters

theorem buffersCounted_setAssoc {s : State} (hs : s.BuffersCounted) {i : Slot} {a b : Assoc} (ha : s.assocAt i = some a)
    (hkey : b.key = a.key) (hlive : b.state.isLive = a.state.isLive) (hsend : b.sendQueue = a.sendQueue)
    (hinq : b.inboundQueue = a.inboundQueue) : (s.setAssoc i b).BuffersCounted :=
  hs.replace ha (assocAt_setAssoc_self s i b) (fun _ hj => assocAt_setAssoc_of_ne s hj b) hkey hlive hsend hinq rfl
    (fun _ => rfl) fun _ => by simp

theorem buffersCounted_reasonBlind : ReasonBlind State.BuffersCounted where
  attention := fun _ hs => hs.same (fun _ => rfl) rfl (fun _ => rfl) fun _ => rfl
  slot := fun _ hs ha => buffersCounted_setAssoc hs ha rfl rfl rfl rfl
  line := fun _ _ hs => buffersCounted_setLine hs rfl

theorem buffersCounted_raiseGrant {s : State} (hs : s.BuffersCounted) {i : Slot} {a : Assoc} {n : Nat}
    (ha : s.assocAt i = some a) : (s.raiseGrant i a n).BuffersCounted := by
  have hraised : (a.raised n).key = a.key ∧ (a.raised n).state = a.state ∧ (a.raised n).sendQueue = a.sendQueue ∧
    (a.raised n).inboundQueue = a.inboundQueue := by rw [raised_eq]; exact ⟨rfl, rfl, rfl, rfl⟩
  obtain ⟨hkey, hstate, hsend, hinq⟩ := hraised
  exact hs.replace ha (assocAt_raiseGrant_self s i a n) (fun _ hj => assocAt_raiseGrant_of_ne s i a n hj) hkey
    (by rw [hstate]) hsend hinq rfl (fun _ => rfl) fun _ => rfl

theorem buffersCounted_endAssoc {c : Claim} (hs : c.st.BuffersCounted) {i : Slot} {a : Assoc} (cause : EndCause)
    (ha : c.st.assocAt i = some a) (hl : a.state.isLive = true) : (c.endAssoc i cause).st.BuffersCounted := by
  refine hs.released (es := a.sendQueue) ha (assocAt_endAssoc_self cause ha hl)
    (fun _ hj => assocAt_endAssoc_of_ne c i cause hj) (List.append_nil _).symm rfl rfl (fun _ => rfl) ?_ (fun x => ?_)
    fun m => by simp
  · rw [endAssoc_of_live cause ha hl, update_st, pool_endRecord]
    exact freeList_releaseAll _ _ _
  · rw [endAssoc_of_live cause ha hl, update_st, State.bufferStateAt, pool_endRecord]
    exact bufferStateAt_releaseAll _ _ x c

/-- A record with empty queues comes into a FREE slot. -/
theorem buffersCounted_create {s t : State} (hs : s.BuffersCounted) {i : Slot} {a : Assoc} (hfree : s.assocAt i = none)
    (hself : t.assocAt i = some a) (hother : ∀ j, j ≠ i → t.assocAt j = s.assocAt j) (hpool : t.pool = s.pool)
    (hsend : a.sendQueue = []) (hinq : a.inboundQueue = []) (hflight : ∀ l, t.inFlight l = s.inFlight l) :
    t.BuffersCounted := by
  have hstate (b : BufferNo) : t.bufferStateAt b = s.bufferStateAt b := by rw [State.bufferStateAt, hpool]; rfl
  refine hs.change i hother (fun b => by rw [hpool, isIn_congr (hstate b)])
    (fun b => by rw [outAt_of_none hfree, outAt_of_some hself, hsend, isIn_congr (hstate b)]; rfl)
    (fun b => by rw [inAt_of_none hfree, inAt_of_some hself, hinq, isIn_congr (hstate b)]; rfl) hflight
    (fun l b h => .inl (hstate b ▸ h)) (fun l b h => hstate b ▸ h) (fun l b hq _ => ?_) fun x hx _ => ?_
  · obtain ⟨x, hx, -⟩ := hq
    rw [hfree] at hx
    cases hx
  · rw [hself] at hx
    cases hx
    exact hsend

theorem buffersCounted_admitted {s : State} (hs : s.BuffersCounted) {l : Line} {f : Frame} {limit credit : Nat}
    {n : ListenNo} {i : Slot} (hfree : s.assocAt i = none) : (s.admitted l f limit credit n i).BuffersCounted := by
  obtain ⟨a, he, -, -, -, -, -, hsend, hinq, -⟩ := admittedAssoc_facts l f limit credit n (s.listenAt n)
  exact buffersCounted_create hs hfree (he ▸ assocAt_admitted_self s l f limit credit n i)
    (fun _ hj => assocAt_admitted_of_ne s i l f limit credit n hj) rfl hsend hinq fun m => inFlight_of_tx (by simp)

/-- RELEASE returns the inbound buffers of an ENDED association (R121). -/
theorem buffersCounted_release {c : Claim} (hs : c.st.BuffersCounted) {i : Slot} {a : Assoc}
    (ha : c.st.assocAt i = some a) (hl : a.state.isLive = false) : (c.release i a).st.BuffersCounted := by
  have hpool : (c.release i a).st.pool = (Claim.returnAll a.inboundQueue c).st.pool := by rw [release_st]; rfl
  have hnone := assocAt_release_self i c a
  have hin {b : BufferNo} (hb : b ∈ a.inboundQueue.map (·.buffer)) : c.st.bufferStateAt b = .inbound :=
    hs.inbound_of_mem (i := i) (inAt_of_some ha ▸ hb)
  have honce {b : BufferNo} (hb : b ∈ a.inboundQueue.map (·.buffer)) : (a.inboundQueue.map (·.buffer)).count b = 1 := by
    have hle := hs.count_inAt_le i b
    have hpos : 0 < (a.inboundQueue.map (·.buffer)).count b := List.count_pos_iff.2 hb
    rw [inAt_of_some ha] at hle
    omega
  have hstate (b : BufferNo) : (c.release i a).st.bufferStateAt b =
      if b ∈ a.inboundQueue.map (·.buffer) then .free else c.st.bufferStateAt b := by
    rw [State.bufferStateAt, hpool]
    exact bufferStateAt_returnAll _ b c
  have hstay {b : BufferNo} (hb : b ∉ a.inboundQueue.map (·.buffer)) :
      (c.release i a).st.bufferStateAt b = c.st.bufferStateAt b := by rw [hstate, if_neg hb]
  refine hs.change i (fun _ hj => assocAt_release_of_ne i c a hj) (fun b => ?_) (fun b => ?_) (fun b => ?_)
    (fun m => by rw [release_st]; rfl) (fun m b h => ?_) (fun m b h => ?_) (fun m b hq _ => ?_) fun x hx => ?_
  · rw [hpool, freeList_returnAll, List.count_append]
    by_cases hb : b ∈ a.inboundQueue.map (·.buffer)
    · rw [honce hb, State.isIn, State.isIn, hin hb, hstate, if_pos hb]
      rfl
    · rw [isIn_congr (hstay hb), List.count_eq_zero_of_not_mem hb]
      rfl
  · rw [outAt_of_none hnone, outAt_of_some ha, hs.ended i a ha hl]
    by_cases hb : b ∈ a.inboundQueue.map (·.buffer)
    · rw [State.isIn, State.isIn, hin hb, hstate, if_pos hb]
      rfl
    · rw [isIn_congr (hstay hb)]
      rfl
  · rw [inAt_of_none hnone, inAt_of_some ha]
    by_cases hb : b ∈ a.inboundQueue.map (·.buffer)
    · rw [honce hb, State.isIn, State.isIn, hin hb, hstate, if_pos hb]
      rfl
    · rw [isIn_congr (hstay hb), List.count_eq_zero_of_not_mem hb]
      rfl
  · rw [hstate] at h
    split at h
    · cases h
    · exact .inl h
  · have hb : b ∉ a.inboundQueue.map (·.buffer) := fun hb => by
      rw [hin hb] at h
      cases h
    rw [hstay hb, h]
  · rw [queuedAt_of_some ha, hs.ended i a ha hl] at hq
    exact absurd hq.2 List.not_mem_nil
  · rw [hnone] at hx
    cases hx

theorem buffersCounted_law : Law State.BuffersCounted :=
  CoreLaw.law
    { frame := fun _ _ _ _ hs => hs.same (fun _ => rfl) rfl (fun _ => rfl) fun _ => rfl
      settings := fun _ _ _ hs => hs.same (fun _ => rfl) rfl (fun _ => rfl) fun _ => rfl
      attend := fun t hs _ _ => buffersCounted_reasonBlind.attention t hs
      takeNotice := buffersCounted_reasonBlind.takeNotice
      control := fun _ hs _ => hs.same (fun _ => rfl) rfl (fun _ => rfl) fun _ => rfl
      revise := fun hs ha hab => buffersCounted_setAssoc hs ha hab.key hab.live hab.sendQueue hab.inboundQueue
      reviseLine := fun hs hq => buffersCounted_setLine hs hq.tx
      raiseSlot := buffersCounted_reasonBlind.raiseSlot
      raiseLine := buffersCounted_reasonBlind.raiseLine
      raiseGrant := fun hs ha _ _ _ => buffersCounted_raiseGrant hs ha
      endAssoc := fun cause hs ha hl => buffersCounted_endAssoc hs cause ha hl
      opening := fun {s} {i} k p hs _ _ hfree _ => buffersCounted_create hs hfree (assocAt_create_self s i _)
        (fun _ hj => assocAt_create_of_ne s i hj _) rfl rfl rfl fun m => inFlight_of_tx (by simp)
      admission := fun hs _ _ hfree _ => buffersCounted_admitted hs hfree
      submit := fun {s} {i} {a} {b} n hs ha hopen hb _ => by
        obtain ⟨x, he⟩ := submitted_facts a b n
        rw [he]
        refine hs.move i (x := b) (q := .outbound) (fun _ hj => assocAt_setAssoc_of_ne _ hj _)
          (fun x => bufferStateAt_setState s b x _) (by simp [hb]) (by simp) (fun x => ?_) (fun x => ?_) (fun x => ?_)
          (fun m => by simp) (fun m x hq => ?_) fun y hy hl => ?_
        · simp [State.isIn, hb]
        · rw [outAt_of_some ha, outAt_of_some (assocAt_setAssoc_self _ i _), List.map_append, List.map_singleton,
            count_concat]
          simp [State.isIn, hb]
        · rw [inAt_of_some ha, inAt_of_some (assocAt_setAssoc_self _ i _)]
          simp [State.isIn, hb]
        · obtain ⟨hl, hmem⟩ := (queuedAt_of_some ha).1 hq
          exact (queuedAt_of_some (assocAt_setAssoc_self _ i _)).2
            ⟨hl, by rw [List.map_append]; exact List.mem_append_left _ hmem⟩
        · rw [assocAt_setAssoc_self] at hy
          cases hy
          dsimp only at hl
          rw [hopen] at hl
          cases hl
      takeMessage := fun {s} {i} {a} {e} {rest} hs ha hq => by
        have hb : s.bufferStateAt e.buffer = .inbound :=
          hs.inbound_of_mem (i := i) (by rw [inAt_of_some ha, hq]; exact List.mem_cons_self)
        have hself : ((s.setAssoc i { a with inboundQueue := rest }).setPool (s.pool.setState e.buffer .host)).assocAt i =
            some { a with inboundQueue := rest } := assocAt_setAssoc_self s i _
        refine hs.move i (x := e.buffer) (q := .host) (fun _ hj => assocAt_setAssoc_of_ne s hj _)
          (fun x => bufferStateAt_setState s e.buffer x _) (by simp [hb]) (by simp) (fun x => ?_) (fun x => ?_) (fun x => ?_)
          (fun m => by simp) (fun m x hq => ?_) fun y hy hl => ?_
        · simp [State.isIn, hb]
        · rw [outAt_of_some ha, outAt_of_some hself]
          simp [State.isIn, hb]
        · rw [inAt_of_some ha, inAt_of_some hself, hq, List.map_cons, count_cons_eq]
          simp [State.isIn, hb]
        · exact (queuedAt_of_some hself).2 ((queuedAt_of_some ha).1 hq)
        · rw [hself] at hy
          cases hy
          exact hs.ended i a ha hl
      allocate := fun {s} {b} {rest} hs hq _ => by
        have hb : s.bufferStateAt b = .free := hs.free_of_mem (hq ▸ List.mem_cons_self)
        refine hs.move 0 (x := b) (q := .host) (fun _ _ => rfl) (fun x => bufferStateAt_setState s b x _) (by simp [hb])
          (by simp) (fun x => ?_) (fun x => ?_) (fun x => ?_) (fun m => by simp) (fun m x hq => hq)
          fun y hy hl => hs.ended 0 y hy hl
        · rw [setPool_pool, hq, count_cons_eq]
          simp [State.isIn, hb]
        · simp [State.isIn, hb, outAt_congr (s := s) (i := 0) (assocAt_setPool s _ 0)]
        · simp [State.isIn, hb, inAt_congr (s := s) (i := 0) (assocAt_setPool s _ 0)]
      giveBuffer := fun {s} {b} hs hb => by
        refine hs.move 0 (x := b) (q := .free) (fun _ _ => rfl) (fun x => bufferStateAt_setState s b x _) (by simp [hb])
          (by simp) (fun x => ?_) (fun x => ?_) (fun x => ?_) (fun m => by simp) (fun m x hq => hq)
          fun y hy hl => hs.ended 0 y hy hl
        · rw [setPool_pool, count_concat]
          simp [State.isIn, hb]
        · simp [State.isIn, hb, outAt_congr (s := s) (i := 0) (assocAt_setPool s _ 0)]
        · simp [State.isIn, hb, inAt_congr (s := s) (i := 0) (assocAt_setPool s _ 0)]
      release := fun hs ha hl => buffersCounted_release hs ha hl
      receipted := fun {c} {i} {a} {next} {credit} hs ha hsend _ _ => by
        obtain ⟨b, he, hlive, hkey, -, -, -, -, hinq, hrest⟩ := receipted_facts next credit hsend
        rw [he]
        refine hs.released (es := a.sendQueue.take (tagDistance a.sendBase next)) ha (assocAt_setAssoc_self _ i _)
          (fun _ hj => ?_) ?_ hinq hkey (fun hd => by rw [hlive] at hd; cases hd) ?_ (fun x => ?_) fun m => by simp
        · rw [assocAt_setAssoc_of_ne _ hj, releaseAll_st, assocAt_setPool]
        · rw [hrest, List.take_append_drop]
        · exact freeList_releaseAll _ _ c
        · exact bufferStateAt_releaseAll _ _ x c
      send := fun {s} {l} {f} {src} {buffer} {replies} {burst} cp dp hs hbegin _ _ hbuffer => by
        refine buffersCounted_send hs (tx_idle_of_mayBegin hbegin) rfl fun x hx => ?_
        obtain ⟨i, a, ha, hq⟩ := hbuffer x hx
        exact ⟨i, a, ha, hq⟩
      frameEnd := fun out hs htx => buffersCounted_frameEnd hs out htx
      listenSet := fun _ hs _ => hs.same (fun _ => rfl) rfl (fun _ => rfl) fun _ => by simp [State.inFlight]
      clearAll := fun {s} _ _ => buffersCounted_of_empty (fun j => assocAt_clearAll s j) rfl
        (fun b => by simp [State.bufferStateAt, State.clearAll, Pool.cleared]) fun l =>
          inFlight_of_idle (by rw [line_clearAll]; rfl) }
    (fun hs ha _ _ => buffersCounted_raiseGrant hs ha) (fun hs hfree => buffersCounted_admitted hs hfree)
    (fun hs _ htx => buffersCounted_setLine hs htx)

theorem buffersCounted_writeLaw : WriteLaw State.BuffersCounted where
  deviceReset := fun {s} b _ => buffersCounted_of_empty (fun j => assocAt_deviceReset s j b) rfl
    (fun x => by simp [State.bufferStateAt, State.deviceReset, State.reset, Pool.reset])
    fun l => inFlight_of_idle (by rw [line_deviceReset]; rfl)
  acceptData := fun {s} {i} {a} {payload} {b} {rest} hs ha _ _ _ hq => by
    obtain ⟨y, z, he⟩ := acceptedData_facts a b payload.length
    rw [he]
    have hb : s.bufferStateAt b = .free := hs.free_of_mem (hq ▸ List.mem_cons_self)
    refine hs.move i (x := b) (q := .inbound) (fun _ hj => assocAt_setAssoc_of_ne _ hj _)
      (fun x => bufferStateAt_setState s b x _) (by simp [hb]) (by simp) (fun x => ?_) (fun x => ?_) (fun x => ?_)
      (fun m => by simp) (fun m x hq => ?_) fun y hy hl => ?_
    · rw [setAssoc_pool, setPool_pool, hq, count_cons_eq]
      simp [State.isIn, hb]
    · rw [outAt_of_some ha, outAt_of_some (assocAt_setAssoc_self _ i _)]
      simp [State.isIn, hb]
    · rw [inAt_of_some ha, inAt_of_some (assocAt_setAssoc_self _ i _), List.map_append, List.map_singleton, count_concat]
      simp [State.isIn, hb]
    · exact (queuedAt_of_some (assocAt_setAssoc_self _ i _)).2 ((queuedAt_of_some ha).1 hq)
    · rw [assocAt_setAssoc_self] at hy
      cases hy
      exact hs.ended i a ha hl
  writeWindow := fun _ _ _ _ hs => hs.same (fun _ => rfl) rfl (fun _ => rfl) fun _ => by simp

/-- Settles O12: counted per buffer, each operation moves one buffer, or a record's released ones, from list to list
with its state. -/
theorem buffersStayHeldOnce : Obligations.BuffersStayHeldOnce := by
  intro s t hs ht
  rw [buffersHeld_iff] at hs ⊢
  exact buffersCounted_law.step buffersCounted_writeLaw
    (fun _ _ hs => hs.same (fun _ => rfl) rfl (fun _ => rfl) fun _ => rfl) hs ht

end Sys2Proof.Machine
end

section
/-! Several associations that end one after another in slot order: the loss of a line (R165, R166) and ABORT-GROUP (R118). -/

namespace Sys2Proof.Machine

/-! ### What entries to ENDED over a list of slots do -/

/-- From `s` to `t`, the associations of the slots of which `G` holds have ended with `cause`, in the order of the slots. -/
structure SlotsEnded (G : Assoc → Bool) (cause : EndCause) (slots : List Slot) (s t : State) : Prop where
  hit : ∀ i a, i ∈ slots → s.assocAt i = some a → G a = true → t.assocAt i = some (a.ended cause)
  spared : ∀ i, (i ∈ slots → ∀ a, s.assocAt i = some a → G a = false) → t.assocAt i = s.assocAt i
  generations : ∀ i, t.generation i = s.generation i
  notices : t.attention.list = s.attention.list ++ (slots.filter fun i => (s.assocAt i).elim false fun a =>
    G a && decide (a.reasons = .empty)).map Source.slot
  keys : ∀ e, e ∈ t.addressMap ↔ e ∈ s.addressMap ∧
    ∀ i a, i ∈ slots → s.assocAt i = some a → G a = true → a.key ≠ e.key
  mailbox : t.mailbox = s.mailbox
  controller : t.controller = s.controller

namespace SlotsEnded

variable {G : Assoc → Bool} {cause : EndCause} {slots : List Slot} {s t u : State} {i : Slot}

theorem nil (G : Assoc → Bool) (cause : EndCause) (s : State) : SlotsEnded G cause [] s s where
  hit := fun _ _ h => absurd h List.not_mem_nil
  spared := fun _ _ => rfl
  generations := fun _ => rfl
  notices := (List.append_nil _).symm
  keys := fun _ => (and_iff_left fun _ _ h => absurd h List.not_mem_nil).symm
  mailbox := rfl
  controller := rfl

/-- A slot without an association that `G` picks is passed over. -/
theorem pass (h : ∀ a, s.assocAt i = some a → G a = false) : SlotsEnded G cause [i] s s where
  hit := fun j a hj ha hg => by
    rw [List.mem_singleton.1 hj] at ha
    rw [h a ha] at hg
    cases hg
  spared := fun _ _ => rfl
  generations := fun _ => rfl
  notices := by
    have hnot : ((s.assocAt i).elim false fun a => G a && decide (a.reasons = .empty)) = false := by
      cases ha : s.assocAt i with
      | none => rfl
      | some a => simp [h a ha]
    simp [hnot]
  keys := fun e => (and_iff_left fun j a hj ha hg => by
    rw [List.mem_singleton.1 hj] at ha
    rw [h a ha] at hg
    cases hg).symm
  mailbox := rfl
  controller := rfl

/-- One slot and the slots after it. -/
theorem cons (hi : i ∉ slots) (hone : SlotsEnded G cause [i] s u) (hrest : SlotsEnded G cause slots u t) :
    SlotsEnded G cause (i :: slots) s t := by
  have hkept {j : Slot} (hj : j ≠ i) : u.assocAt j = s.assocAt j :=
    hone.spared j fun h => absurd (List.mem_singleton.1 h) hj
  have hdone : t.assocAt i = u.assocAt i := hrest.spared i fun h => absurd h hi
  have hne {j : Slot} (hj : j ∈ slots) : j ≠ i := fun h => hi (h ▸ hj)
  refine ⟨fun j a hj ha hg => ?_, fun j hj => ?_, fun j => (hrest.generations j).trans (hone.generations j), ?_, fun e => ?_,
    hrest.mailbox.trans hone.mailbox, hrest.controller.trans hone.controller⟩
  · rcases List.mem_cons.1 hj with rfl | hj
    · exact hdone.trans (hone.hit j a List.mem_cons_self ha hg)
    · exact hrest.hit j a hj ((hkept (hne hj)).trans ha) hg
  · by_cases hij : j = i
    · subst hij
      rw [hdone]
      exact hone.spared j fun _ => hj List.mem_cons_self
    · rw [hrest.spared j fun h a ha => hj (List.mem_cons_of_mem _ h) a (hkept hij ▸ ha), hkept hij]
  · have hsame : slots.filter (fun j => (u.assocAt j).elim false fun a => G a && decide (a.reasons = .empty)) =
        slots.filter fun j => (s.assocAt j).elim false fun a => G a && decide (a.reasons = .empty) :=
      List.filter_congr fun j hj => by rw [hkept (hne hj)]
    rw [hrest.notices, hone.notices, hsame, List.append_assoc, ← List.map_append, ← List.filter_append,
      List.singleton_append]
  · rw [hrest.keys, hone.keys, and_assoc]
    refine and_congr_right fun _ => ⟨fun ⟨hfirst, hothers⟩ j a hj ha hg => ?_,
      fun h => ⟨fun j a hj => ?_, fun j a hj ha hg => ?_⟩⟩
    · rcases List.mem_cons.1 hj with rfl | hj
      · exact hfirst j a List.mem_cons_self ha hg
      · exact hothers j a hj ((hkept (hne hj)).trans ha) hg
    · exact h j a (by rw [List.mem_singleton.1 hj]; exact List.mem_cons_self)
    · exact h j a (List.mem_cons_of_mem _ hj) (hkept (hne hj) ▸ ha) hg

/-- The entry to ENDED of one association, in a claim whose slots, map, list, mailbox and controller are those of `s`. -/
theorem single {c : Claim} {a : Assoc} (hslots : ∀ j, c.st.slotRec j = s.slotRec j)
    (hlist : c.st.attention.list = s.attention.list) (hmap : c.st.addressMap = s.addressMap)
    (hmailbox : c.st.mailbox = s.mailbox) (hcontroller : c.st.controller = s.controller) (ha : s.assocAt i = some a)
    (hl : a.state.isLive = true) (hg : G a = true) : SlotsEnded G cause [i] s (c.endAssoc i cause).st := by
  have hassoc (j : Slot) : c.st.assocAt j = s.assocAt j := by rw [State.assocAt, State.assocAt, hslots]
  have hgen (j : Slot) : c.st.generation j = s.generation j := by rw [State.generation, State.generation, hslots]
  have hac : c.st.assocAt i = some a := (hassoc i).trans ha
  refine ⟨fun j b hj hb _ => ?_, fun j hj => ?_, fun j => (generation_endAssoc c i cause j).trans (hgen j), ?_, fun e => ?_,
    (mailbox_endAssoc c i cause).trans hmailbox, (controller_endAssoc c i cause).trans hcontroller⟩
  · obtain rfl := List.mem_singleton.1 hj
    rw [ha] at hb
    cases hb
    exact assocAt_endAssoc_self cause hac hl
  · by_cases hij : j = i
    · subst hij
      rw [hj List.mem_cons_self a ha] at hg
      cases hg
    · rw [assocAt_endAssoc_of_ne c i cause hij, hassoc]
  · have hatt : (c.endAssoc i cause).st.attention =
        if a.reasons = .empty then c.st.attention.join (.slot i) else c.st.attention := by
      rw [endAssoc_of_live cause hac hl, update_st, attention_endRecord, releaseAll_st, setPool_attention]
    rw [hatt, ← hlist]
    by_cases he : a.reasons = .empty <;> simp [he, ha, hg]
  · have hfilter : (c.endAssoc i cause).st.addressMap = s.addressMap.filter fun e => e.key ≠ a.key := by
      rw [endAssoc_of_live cause hac hl, update_st, addressMap_endRecord, releaseAll_st, setPool_addressMap, hmap]
    rw [hfilter, List.mem_filter, decide_eq_true_eq]
    refine and_congr_right fun _ => ⟨fun h j b hj hb _ hkey => ?_, fun h hkey => h i a List.mem_cons_self ha hg hkey.symm⟩
    rw [List.mem_singleton.1 hj, ha] at hb
    cases hb
    exact h hkey.symm

end SlotsEnded

/-! ### The loss of a line -/

/-- A live association of a line. -/
def Assoc.liveOn (l : Line) (a : Assoc) : Bool := decide (a.key.line = l) && a.state.isLive

theorem liveOn_iff {l : Line} {a : Assoc} : a.liveOn l = true ↔ a.key.line = l ∧ a.state.isLive = true := by
  simp [Assoc.liveOn]

theorem line_endLine (l : Line) (cause : EndCause) (slots : List Slot) (m : Line) : ∀ c : Claim,
    (Claim.endLine l cause slots c).st.line m = c.st.line m := by
  induction slots with
  | nil => intro c; rfl
  | cons i rest ih =>
    intro c
    rw [Claim.endLine, ih]
    split
    · split <;> simp
    · rfl

/-- Ending a line's associations over a list of slots. -/
theorem slotsEnded_endLine (l : Line) (cause : EndCause) : ∀ {slots : List Slot}, slots.Nodup → ∀ c : Claim,
    SlotsEnded (Assoc.liveOn l) cause slots c.st (Claim.endLine l cause slots c).st := by
  intro slots
  induction slots with
  | nil => exact fun _ c => SlotsEnded.nil _ _ _
  | cons i rest ih =>
    intro hn c
    obtain ⟨hi, hrest⟩ := List.nodup_cons.1 hn
    rw [Claim.endLine]
    split
    · rename_i a ha
      split
      · rename_i hline
        cases hl : a.state.isLive with
        | true =>
          exact SlotsEnded.cons hi (SlotsEnded.single (fun _ => rfl) rfl rfl rfl rfl ha hl (liveOn_iff.2 ⟨hline, hl⟩))
            (ih hrest _)
        | false =>
          rw [endAssoc_of_ended cause ha hl]
          refine SlotsEnded.cons hi (SlotsEnded.pass fun b hb => ?_) (ih hrest c)
          rw [ha] at hb
          cases hb
          simp [Assoc.liveOn, hl]
      · rename_i hline
        refine SlotsEnded.cons hi (SlotsEnded.pass fun b hb => ?_) (ih hrest c)
        rw [ha] at hb
        cases hb
        simp [Assoc.liveOn, hline]
    · rename_i ha
      refine SlotsEnded.cons hi (SlotsEnded.pass fun b hb => ?_) (ih hrest c)
      rw [ha] at hb
      cases hb

section LoseLine

variable (s : State) (l : Line) (st : LineState) (cause : EndCause)

@[simp] theorem served_loseLine : (s.loseLine l st cause).served = none := by
  simp only [State.loseLine, update_served, CoreLaw.served_endLine, begin_served]

theorem slotsEnded_loseLine : SlotsEnded (Assoc.liveOn l) cause allSlots s (s.loseLine l st cause).st := by
  have hended := slotsEnded_endLine l cause allSlots_nodup
    (Claim.begin (s.setLine l { s.line l with state := st, graceTimer := .stopped }))
  unfold State.loseLine
  dsimp only [update_st]
  generalize Claim.endLine l cause allSlots _ = c at hended
  obtain ⟨hhit, hspared, hgen, hnotices, hkeys, hmailbox, hcontroller⟩ := hended
  exact ⟨by simpa using hhit, by simpa using hspared, by simpa using hgen, by simpa using hnotices, by simpa using hkeys,
    by simpa using hmailbox, by simpa using hcontroller⟩

theorem line_loseLine_self : (s.loseLine l st cause).st.line l =
    { s.line l with state := st, graceTimer := .stopped, replies := [], burst := 0 } := by
  simp [State.loseLine, line_endLine]

theorem line_loseLine_of_ne {m : Line} (h : m ≠ l) : (s.loseLine l st cause).st.line m = s.line m := by
  simp [State.loseLine, line_endLine, line_setLine_of_ne _ h]

end LoseLine

/-- A claim that has ended a line's associations and then finishes has lost the line. -/
theorem lineLost_finish {s : State} {l : Line} {cause : EndCause} {c : Claim} {tail : List Source} (hserved : c.served = none)
    (hassoc : ∀ i a, s.assocAt i = some a → c.st.assocAt i = some (if a.liveOn l then a.ended cause else a))
    (hnone : ∀ i, s.assocAt i = none → c.st.assocAt i = none) (hgen : ∀ i, c.st.generation i = s.generation i)
    (hnotices : c.st.attention.list = s.attention.list ++ (allSlots.filter fun i => (s.assocAt i).elim false fun a =>
      a.liveOn l && decide (a.reasons = .empty)).map Source.slot ++ tail)
    (hkeys : ∀ e, e ∈ c.st.addressMap ↔ e ∈ s.addressMap ∧
      ∀ i a, i ∈ allSlots → s.assocAt i = some a → a.liveOn l = true → a.key ≠ e.key)
    (hlines : ∀ m, m ≠ l → c.st.line m = s.line m) (hcontroller : c.st.controller = s.controller)
    (hmailbox : c.st.mailbox = s.mailbox) : s.LineLost l cause tail c.finish := by
  have hnot : ∀ i, c.served ≠ some i := fun i h => by rw [hserved] at h; cases h
  have hdead {i : Slot} {b : Assoc} (hb : c.st.assocAt i = some b) (hl : b.state.isLive = false) :
      c.finish.assocAt i = some b :=
    assocAt_finish_of_sated hb (wants_of_not_credits (credits_of_not_live hl)) (hnot i)
  refine ⟨fun i a ha hline hl => ?_, fun i a ha hl => ?_, fun i a ha hline => ?_, fun i => ⟨?_, fun ha => ?_⟩, fun e => ?_,
    ?_, fun m hm => ?_, ?_, ?_⟩
  · have hb := hassoc i a ha
    rw [if_pos (liveOn_iff.2 ⟨hline, hl⟩)] at hb
    exact hdead hb rfl
  · have hb := hassoc i a ha
    rw [if_neg fun h => by rw [(liveOn_iff.1 h).2] at hl; cases hl] at hb
    exact hdead hb hl
  · have hb := hassoc i a ha
    rw [if_neg fun h => hline (liveOn_iff.1 h).1] at hb
    obtain ⟨g, x, -, he⟩ := (finish_slot c i).2.2 a hb
    exact ⟨g, x, he⟩
  · rw [generation_finish, hgen]
  · exact assocAt_finish_of_none _ (hnone i ha)
  · rw [finish_addressMap, hkeys]
    simp only [mem_allSlots, true_implies, liveOn_iff, and_imp]
  · rw [finish_attention, hnotices]
    rfl
  · rw [line_finish, hlines m hm]
  · rw [finish_controller, hcontroller]
  · rw [finish_mailbox, hmailbox]

theorem SlotsEnded.assocAt {G : Assoc → Bool} {cause : EndCause} {s t : State} (h : SlotsEnded G cause allSlots s t) {i : Slot}
    {a : Assoc} (ha : s.assocAt i = some a) : t.assocAt i = some (if G a then a.ended cause else a) := by
  cases hg : G a with
  | true => exact h.hit i a (mem_allSlots i) ha hg
  | false =>
    rw [h.spared i fun _ b hb => by rw [ha] at hb; cases hb; exact hg, ha]
    rfl

theorem SlotsEnded.assocAt_of_none {G : Assoc → Bool} {cause : EndCause} {s t : State}
    (h : SlotsEnded G cause allSlots s t) {i : Slot} (ha : s.assocAt i = none) : t.assocAt i = none := by
  rw [h.spared i fun _ b hb => (by rw [ha] at hb; cases hb), ha]

/-- The list and the reasons of the line after DOWN is raised on it (R161, R181). -/
theorem raiseLine_facts (s : State) (l : Line) (r : LineReason) :
    (s.raiseLine l r).attention = (if (s.line l).reasons = .empty then s.attention.join (.line l) else s.attention) ∧
    (s.raiseLine l r).line l = { s.line l with reasons := (s.line l).reasons.raise r } ∧
    (∀ m, m ≠ l → (s.raiseLine l r).line m = s.line m) ∧ ∀ i, (s.raiseLine l r).slotRec i = s.slotRec i := by
  unfold State.raiseLine
  by_cases he : (s.line l).reasons = .empty
  · simp only [LineReasons.isEmpty, he, decide_true, if_true]
    exact ⟨by simp, by simp, fun m hm => by simp [line_setLine_of_ne s hm], fun i => by simp⟩
  · simp only [LineReasons.isEmpty, he, decide_false, if_false]
    exact ⟨by simp, by simp, fun m hm => by simp [line_setLine_of_ne s hm], fun i => by simp⟩

/-- A line that goes DOWN is lost (R165). -/
theorem lineLost_goDown (s : State) (l : Line) :
    s.LineLost l .lineDown (if (s.line l).reasons = .empty then [.line l] else []) (s.goDown l) ∧
    (s.goDown l).line l = { s.line l with
      state := .down, graceTimer := .stopped, replies := [], burst := 0,
      reasons := { (s.line l).reasons with down := true } } := by
  have hended := slotsEnded_loseLine s l .down .lineDown
  have hself := line_loseLine_self s l .down .lineDown
  have hother := @line_loseLine_of_ne s l .down .lineDown
  have hserved := served_loseLine s l .down .lineDown
  unfold State.goDown
  generalize s.loseLine l .down .lineDown = c at *
  obtain ⟨hatt, hline, hlines, hslots⟩ := raiseLine_facts c.st l .down
  have hassoc (i : Slot) : (c.st.raiseLine l .down).assocAt i = c.st.assocAt i := by simp
  have hreasons : (c.st.line l).reasons = (s.line l).reasons := by rw [hself]
  constructor
  · refine lineLost_finish (by simpa using hserved) (fun i a ha => ?_) (fun i ha => ?_) (fun i => ?_) ?_ (fun e => ?_)
      (fun m hm => ?_) ?_ ?_
    · rw [update_st, hassoc, hended.assocAt ha]
    · rw [update_st, hassoc, hended.assocAt_of_none ha]
    · rw [update_st, State.generation, hslots]
      exact hended.generations i
    · rw [update_st, hatt, hreasons]
      split <;> simp [hended.notices]
    · rw [update_st, raiseLine_addressMap, hended.keys]
    · rw [update_st, hlines m hm, hother hm]
    · rw [update_st, raiseLine_controller, hended.controller]
    · rw [update_st, raiseLine_mailbox, hended.mailbox]
  · rw [line_finish, update_st, hline, hself]
    rfl

/-- A disabled line is lost before the frame on it is cut (R166). -/
theorem lineLost_disable (s : State) (l : Line) :
    s.LineLost l .lineDisabled [] ((s.setLine l (s.line l).dropReception).loseLine l .disabled .lineDisabled).finish ∧
    ((s.setLine l (s.line l).dropReception).loseLine l .disabled .lineDisabled).finish.line l =
      { (s.line l).dropReception with state := .disabled, graceTimer := .stopped, replies := [], burst := 0 } := by
  have hended := slotsEnded_loseLine (s.setLine l (s.line l).dropReception) l .disabled .lineDisabled
  have hself := line_loseLine_self (s.setLine l (s.line l).dropReception) l .disabled .lineDisabled
  have hother := @line_loseLine_of_ne (s.setLine l (s.line l).dropReception) l .disabled .lineDisabled
  have hserved := served_loseLine (s.setLine l (s.line l).dropReception) l .disabled .lineDisabled
  generalize (s.setLine l (s.line l).dropReception).loseLine l .disabled .lineDisabled = c at *
  rw [line_setLine_self] at hself
  have hassoc (i : Slot) : (s.setLine l (s.line l).dropReception).assocAt i = s.assocAt i := by simp
  constructor
  · refine lineLost_finish hserved (fun i a ha => hended.assocAt ((hassoc i).trans ha))
      (fun i ha => hended.assocAt_of_none ((hassoc i).trans ha)) (fun i => ?_) ?_ (fun e => ?_) (fun m hm => ?_) ?_ ?_
    · rw [hended.generations, generation_setLine]
    · rw [hended.notices]
      simp only [hassoc, setLine_attention, List.append_nil]
    · rw [hended.keys]
      simp only [hassoc, setLine_addressMap]
    · rw [hother hm, line_setLine_of_ne s hm]
    · rw [hended.controller, setLine_controller]
    · rw [hended.mailbox, setLine_mailbox]
  · rw [line_finish, hself]

end Sys2Proof.Machine
end

section
/-! Ticks (R153 to R156): the tick at one timer by what the timer says, and the expiry rows. -/

namespace Sys2Proof.Machine

/-- A record put back where it stands changes nothing. -/
theorem setAssoc_assocAt {s : State} {i : Slot} {a : Assoc} (h : s.assocAt i = some a) : s.setAssoc i a = s := by
  have hrec : s.table[i] = { generation := s.generation i, assoc := some a } := by
    rw [← h]
    rfl
  have htable : s.table.set i.val { generation := s.generation i, assoc := some a } i.isLt = s.table := by
    rw [← hrec]
    exact Vector.set_getElem_self i.isLt
  exact State.eq_of_blocks rfl rfl htable rfl rfl rfl (fun _ => rfl) rfl rfl rfl rfl rfl rfl

/-! ### The tick at one timer -/

section Tick

variable {s : State} {x : TimerName}

@[simp] theorem assocAt_tickNoted (i : Slot) : (s.tickNoted x).assocAt i = s.assocAt i := rfl
@[simp] theorem generation_tickNoted (i : Slot) : (s.tickNoted x).generation i = s.generation i := rfl
@[simp] theorem line_tickNoted (l : Line) : (s.tickNoted x).line l = s.line l := by cases l <;> rfl
@[simp] theorem attention_tickNoted : (s.tickNoted x).attention = s.attention := rfl

theorem tickAt_of_open (h : s.tickOpen x) : s.tickAt x = (s.tickNoted x).reach x := by
  obtain ⟨hnot, -⟩ | ⟨-, he⟩ := tickAt_cases s x
  · exact absurd h hnot
  · exact he

theorem tickAt_of_closed (h : ¬ s.tickOpen x) : s.tickAt x = s := by
  obtain ⟨-, he⟩ | ⟨hopen, -⟩ := tickAt_cases s x
  · exact he
  · exact absurd hopen h

theorem timerAt_tickNoted (y : TimerName) : (s.tickNoted x).timerAt y = s.timerAt y := by
  rw [← noteTick_eq_tickNoted, timerAt_noteTick]

theorem mayCount_tickNoted (y : TimerName) : (s.tickNoted x).mayCount y = s.mayCount y := by
  rw [← noteTick_eq_tickNoted, mayCount_noteTick]

/-- A timer at its last tick expires. -/
theorem tickAt_of_last (hopen : s.tickOpen x) (hcount : s.mayCount x = true) (hlast : s.timerAt x = .counting 1) :
    s.tickAt x = (s.tickNoted x).expire x := by
  rw [tickAt_of_open hopen, State.reach, timerAt_tickNoted, hlast, mayCount_tickNoted, hcount]
  rfl

/-- A timer put back where it stands changes nothing. -/
theorem setTimer_timerAt (s : State) (x : TimerName) : s.setTimer (s.timerAt x) x = s := by
  cases x with
  | assocState i =>
    cases ha : s.assocAt i with
    | none => simp [State.setTimer, ha]
    | some a => simpa [State.setTimer, State.timerAt, ha] using setAssoc_assocAt ha
  | receipt i =>
    cases ha : s.assocAt i with
    | none => simp [State.setTimer, ha]
    | some a => simpa [State.setTimer, State.timerAt, ha] using setAssoc_assocAt ha
  | grace l => exact setLine_line_self s l
  | holdoff => rfl

/-- A timer whose last tick this is not counts down, or keeps what it has. -/
theorem tickAt_of_survives {p : Prop} [Decidable p] (hopen : s.tickOpen x) (hcount : s.mayCount x = true ↔ p)
    (h : (s.timerAt x).survives p) : s.tickAt x = (s.tickNoted x).setTimer ((s.timerAt x).afterTick p) x := by
  have hkeep (ht : (s.timerAt x).afterTick p = s.timerAt x) :
      (s.tickNoted x).setTimer ((s.timerAt x).afterTick p) x = s.tickNoted x := by
    rw [ht, ← timerAt_tickNoted x, setTimer_timerAt]
  rw [tickAt_of_open hopen, State.reach, timerAt_tickNoted, mayCount_tickNoted]
  cases ht : s.timerAt x with
  | stopped =>
    have hstays := hkeep (by rw [ht]; rfl)
    rw [ht] at hstays
    exact hstays.symm
  | counting n =>
    by_cases hp : p
    · have hn : ¬ n ≤ 1 := by
        have := h hp n ht
        omega
      simp [hcount.2 hp, hn, Timer.afterTick, hp]
    · have hc : s.mayCount x = false := by
        rw [← Bool.not_eq_true, hcount]
        exact hp
      have hstays := hkeep (by rw [ht]; exact if_neg hp)
      rw [ht] at hstays
      rw [hc]
      exact hstays.symm

/-- An expiry row whose event does not occur changes nothing (log 1). -/
theorem expiryAt_of_not {owner : Bool} (h : owner = true → s.tickOpen x → ¬ s.expiresAt x = true) :
    s.expiryAt x owner = s := by
  obtain ⟨ho, he, htick⟩ | ⟨-, htick⟩ := expiryAt_cases s x owner
  · rw [htick, tickAt_of_closed fun hopen => h ho hopen he]
  · exact htick

/-- An expiry row is the tick at its timer (log 3). -/
theorem expiryAt_of_last (hopen : s.tickOpen x) (hcount : s.mayCount x = true) (hlast : s.timerAt x = .counting 1) :
    s.expiryAt x true = (s.tickNoted x).expire x := by
  have hexpires : s.expiresAt x = true := by simp [State.expiresAt, hlast, hcount]
  rw [State.expiryAt, hexpires, ← tickAt_of_last hopen hcount hlast]
  rfl

theorem not_expiresAt_of_survives (h : (s.timerAt x).survives True) : ¬ s.expiresAt x = true := by
  unfold State.expiresAt
  split
  · simp
  · rename_i n hn
    have := h trivial n hn
    simp only [Bool.and_eq_true, decide_eq_true_eq, not_and]
    omega

theorem not_expiresAt_of_frozen (h : ¬ s.mayCount x = true) : ¬ s.expiresAt x = true := by
  unfold State.expiresAt
  split
  · simp
  · simp [h]

end Tick

section Timers

variable {s : State} {i : Slot} {a : Assoc}

theorem timerAt_assocState (h : s.assocAt i = some a) : s.timerAt (.assocState i) = a.stateTimer := by
  simp [State.timerAt, h]

theorem timerAt_receipt (h : s.assocAt i = some a) : s.timerAt (.receipt i) = a.receiptTimer := by
  simp [State.timerAt, h]

theorem mayCount_assocState (h : s.assocAt i = some a) :
    s.mayCount (.assocState i) = true ↔ s.TimersCount a.key.line := by
  simp [State.mayCount, h, ← lineCounts_iff]

theorem mayCount_receipt (h : s.assocAt i = some a) : s.mayCount (.receipt i) = true ↔ s.TimersCount a.key.line := by
  simp [State.mayCount, h, ← lineCounts_iff]

theorem mayCount_grace (l : Line) : s.mayCount (.grace l) = true ↔ s.controller = .running := by
  simp [State.mayCount, State.running]

end Timers

/-! ### The loss of a line at its grace expiry and at a disable -/

/-- A 32-bit write replaces the whole word (R187). -/
theorem mergeLanes_all (old v : Word) : mergeLanes old v allLanes = v := by
  have hmask : laneMask allLanes = BitVec.allOnes 32 := by decide
  rw [mergeLanes, hmask, BitVec.and_allOnes, BitVec.not_allOnes]
  exact (congrArg _ BitVec.and_zero).trans BitVec.or_zero

/-- A host write with some byte lane, while the reset input is released (R187, R191). -/
theorem hostWrite_reg {s : State} {word : BitVec 10} {r : Reg} (hreset : s.resetAsserted = false)
    (hreg : regAt word = some r) {lanes : BitVec 4} (hlanes : lanes ≠ 0) (v : Word) :
    s.hostWrite word lanes v = s.writeReg lanes v r := by
  rw [State.hostWrite, hreg, hreset, if_neg]
  simpa using hlanes

theorem allLanes_ne_zero : allLanes ≠ 0 := by decide

theorem regAt_lineControlWord (l : Line) : regAt (lineControlWord l) = some (.lineControl l) := by
  cases l <;> decide

theorem hostWrite_lineControl {s : State} (l : Line) (v : Word) (h : s.resetAsserted = false) :
    s.hostWrite (lineControlWord l) allLanes v = s.writeLineControl l (v.getLsbD 0) := by
  rw [hostWrite_reg h (regAt_lineControlWord l) allLanes_ne_zero, State.writeReg, mergeLanes_all]

theorem dropReception_eq (r : LineRecord) : r.dropReception = { r with
    rx := .hunting 0, tallies := if r.rx.inFrame then r.tallies.bump .check else r.tallies } := by
  unfold LineRecord.dropReception
  split <;> rfl

theorem lineLost_of_tickNoted {s t : State} {x : TimerName} {l : Line} {cause : EndCause} {tail : List Source}
    (h : (s.tickNoted x).LineLost l cause tail t) : s.LineLost l cause tail t where
  ended := h.ended
  dead := h.dead
  other := h.other
  slots := h.slots
  keys := h.keys
  notices := h.notices
  line := fun m hm => (h.line m hm).trans (line_tickNoted m)
  controller := h.controller
  mailbox := h.mailbox

theorem timebase_goDown (s : State) (l : Line) : (s.goDown l).timebase = s.timebase := by
  have hloop (cause : EndCause) (slots : List Slot) : ∀ c : Claim,
      (Claim.endLine l cause slots c).st.timebase = c.st.timebase := by
    induction slots with
    | nil => intro c; rfl
    | cons i rest ih =>
      intro c
      rw [Claim.endLine, ih]
      split
      · split <;> simp
      · rfl
  simp [State.goDown, State.loseLine, hloop]

/-- A SUSPENDED line's grace timer at its last tick takes the line DOWN (R165). -/
theorem expire_grace {s : State} {l : Line} (x : TimerName) (h : (s.line l).state = .suspended) :
    (s.tickNoted x).expire (.grace l) = (s.tickNoted x).goDown l := by
  have hsusp : ((s.tickNoted x).line l).state = .suspended := by rw [line_tickNoted, h]
  rw [State.expire, State.graceExpires, if_pos hsusp]

/-- Settles O44: both losses are the one of `lineLost_finish`. -/
theorem lostLineEndsItsAssociations : Obligations.LostLineEndsItsAssociations := by
  intro s l
  refine ⟨fun hopen hsusp htimer hrun => ?_, fun hstate hreset => ?_, fun h => ?_, fun hstate => ?_⟩
  · have hcount : s.mayCount (.grace l) = true := (mayCount_grace l).2 hrun
    obtain ⟨hlost, hline⟩ := lineLost_goDown (s.tickNoted (.grace l)) l
    rw [line_tickNoted] at hlost hline
    have hrow : s.expiryAt (.grace l) ((s.line l).state = .suspended) = (s.tickNoted (.grace l)).goDown l := by
      rw [decide_eq_true hsusp, expiryAt_of_last hopen hcount htimer, expire_grace _ hsusp]
    have htick : s.tickAt (.grace l) = (s.tickNoted (.grace l)).goDown l := by
      rw [tickAt_of_last hopen hcount htimer, expire_grace _ hsusp]
    exact ⟨_, congrArg Host.Outcome.next hrow, congrArg Host.Outcome.next htick, timebase_goDown _ l,
      lineLost_of_tickNoted hlost, hline⟩
  · obtain ⟨hlost, hline⟩ := lineLost_disable s l
    refine ⟨_, _, ?_, rfl, hlost, by rw [hline, dropReception_eq]⟩
    refine congrArg Host.Outcome.next ?_
    rw [hostWrite_lineControl l _ hreset]
    exact if_neg hstate
  · refine congrArg Host.Outcome.next (expiryAt_of_not fun howner hopen hexp => ?_)
    obtain hclosed | hstate | hrun | hsurvives := h
    · exact hclosed hopen
    · exact hstate (of_decide_eq_true howner)
    · exact not_expiresAt_of_frozen (fun hc => hrun ((mayCount_grace l).1 hc)) hexp
    · exact not_expiresAt_of_survives (x := .grace l) hsurvives hexp
  · refine congrArg Host.Outcome.next ?_
    cases hreset : s.resetAsserted with
    | true => simp [State.hostWrite, hreset]
    | false =>
      rw [hostWrite_lineControl l _ hreset]
      exact if_pos hstate

end Sys2Proof.Machine
end

section
/-! The law of the lines (R141, R145, R156, R161, R170). Of the records it looks at no more than which slot owns which key. -/

namespace Sys2Proof.Machine

/-! ### Owners through the operations -/

section Owners

variable {s t : State} {i : Slot}

theorem owns_finish (c : Claim) (i : Slot) (k : Key) : c.finish.Owns i k ↔ c.st.Owns i k := by
  cases ha : c.st.assocAt i with
  | none => exact iff_of_false (not_owns_of_none (assocAt_finish_of_none _ ha) k) (not_owns_of_none ha k)
  | some a =>
    obtain ⟨g, x, -, he⟩ := (finish_slot c i).2.2 a ha
    rw [owns_of_some he, owns_of_some ha]

theorem owns_setAssoc {a b : Assoc} (ha : s.assocAt i = some a) (hkey : b.key = a.key)
    (hlive : b.state.isLive = a.state.isLive) (j : Slot) (k : Key) : (s.setAssoc i b).Owns j k ↔ s.Owns j k :=
  owns_replace ha (assocAt_setAssoc_self s i b) (fun _ hj => assocAt_setAssoc_of_ne s hj b) hkey hlive j k

theorem owns_endAssoc {c : Claim} {cause : EndCause} {j : Slot} {k : Key} (h : (c.endAssoc i cause).st.Owns j k) :
    c.st.Owns j k := by
  by_cases hj : j = i
  · subst hj
    obtain he | ⟨a, ha, hl, -⟩ := endAssoc_cases c j cause
    · rwa [he] at h
    · rw [owns_of_some (assocAt_endAssoc_self cause ha hl)] at h
      cases h.1
  · rwa [owns_congr (assocAt_endAssoc_of_ne c i cause hj)] at h

/-- The completion effects on a record change the record of the frame's association or nothing (R149). -/
theorem recordDone_cases (s : State) (r : TxRecord) :
    s.recordDone r = s ∨ ∃ i a, s.assocAt i = some a ∧ s.recordDone r = s.setAssoc i (a.frameDone r.kind) := by
  unfold State.recordDone
  split
  · exact .inl rfl
  · split
    · exact .inl rfl
    · rename_i ha
      split
      · exact .inr ⟨_, _, ha, rfl⟩
      · exact .inl rfl

theorem owns_recordDone (s : State) (r : TxRecord) (j : Slot) (k : Key) : (s.recordDone r).Owns j k ↔ s.Owns j k := by
  obtain he | ⟨i, a, ha, he⟩ := recordDone_cases s r
  · rw [he]
  · have hrev := (clerical_frameDone a r.kind).revises
    rw [he]
    exact owns_setAssoc ha hrev.key hrev.live j k

/-- A lost line has no owner left, and the others' owners are those of before. -/
theorem owns_of_lineLost {l : Line} {cause : EndCause} {tail : List Source} (h : s.LineLost l cause tail t) {k : Key}
    (ht : t.Owns i k) : s.Owns i k ∧ k.line ≠ l := by
  cases ha : s.assocAt i with
  | none => exact absurd ht (not_owns_of_none ((h.slots i).2 ha) k)
  | some a =>
    cases hl : a.state.isLive with
    | false =>
      rw [owns_of_some (h.dead i a ha hl), hl] at ht
      cases ht.1
    | true =>
      by_cases hline : a.key.line = l
      · rw [owns_of_some (h.ended i a ha hline hl)] at ht
        cases ht.1
      · obtain ⟨g, x, he⟩ := h.other i a ha hline
        rw [owns_of_some he] at ht
        obtain ⟨-, rfl⟩ := ht
        exact ⟨(owns_of_some ha _).2 ⟨hl, rfl⟩, hline⟩

end Owners

/-! ### The end of a frame, for lines, owners and controller -/

theorem bothIdle_iff (s : State) : s.bothIdle = true ↔ ∀ l, (s.line l).tx = .idle := by
  simp only [State.bothIdle, Bool.and_eq_true, decide_eq_true_eq]
  exact ⟨fun ⟨ha, hb⟩ l => by cases l <;> assumption, fun h => ⟨h .a, h .b⟩⟩

/-- The controller settles a stop, and nothing else changes (R170). -/
theorem settleStop_eq (s : State) : s.settleStop = { s with controller :=
    if s.controller = .stopping ∧ s.bothIdle = true then .stopped else s.controller } := by
  unfold State.settleStop
  by_cases h : s.controller = .stopping ∧ s.bothIdle = true
  · simp [h]
  · rw [if_neg h, if_neg]
    simpa using h

section EndFrame

variable (s : State) (l : Line) (out : TxOutput)

/-- What the end of a frame does to lines, owners and controller. -/
theorem endFrame_facts :
    (∃ o, (s.endFrame l out).line l = { s.line l with tx := .idle, txOut := o }) ∧
    (∀ m, m ≠ l → (s.endFrame l out).line m = s.line m) ∧
    (∀ i k, (s.endFrame l out).Owns i k ↔ s.Owns i k) ∧
    ((s.endFrame l out).controller = .stopped → s.controller = .stopped ∨ (s.endFrame l out).bothIdle = true) := by
  unfold State.endFrame
  split
  · rename_i htx
    refine ⟨⟨(s.line l).txOut, ?_⟩, fun _ _ => rfl, fun _ _ => Iff.rfl, .inl⟩
    rw [← htx]
  · rename_i r htx
    have hc (m : Line) : ((Claim.begin (s.recordDone r)).retire r.buffer).st.line m = s.line m := by
      rw [retire_frame, line_setPool, begin_st, line_recordDone]
    have howns (i : Slot) (k : Key) : ((Claim.begin (s.recordDone r)).retire r.buffer).st.Owns i k ↔ s.Owns i k := by
      rw [retire_frame]
      exact owns_recordDone s r i k
    have hcontroller : ((Claim.begin (s.recordDone r)).retire r.buffer).st.controller = s.controller := by
      rw [retire_frame, setPool_controller, begin_st]
      obtain he | ⟨i, a, -, he⟩ := recordDone_cases s r
      · rw [he]
      · rw [he]
        rfl
    generalize (Claim.begin (s.recordDone r)).retire r.buffer = c at *
    dsimp only
    rw [settleStop_eq]
    refine ⟨⟨out, ?_⟩, fun m hm => ?_, fun i k => ?_, fun hstop => ?_⟩
    · have : (c.update fun t => t.setLine l { t.line l with tx := .idle, txOut := out }).finish.line l =
          { s.line l with tx := .idle, txOut := out } := by
        rw [line_finish, update_st, line_setLine_self, hc]
      rw [← this]
      cases l <;> rfl
    · have : (c.update fun t => t.setLine l { t.line l with tx := .idle, txOut := out }).finish.line m = s.line m := by
        rw [line_finish, update_st, line_setLine_of_ne _ hm, hc]
      rw [← this]
      cases m <;> rfl
    · refine Iff.trans ?_ (howns i k)
      refine Iff.trans (owns_finish _ i k) ?_
      exact owns_congr (by rw [update_st, assocAt_setLine]) k
    · dsimp only at hstop
      split at hstop
      · exact .inr ‹_ ∧ _›.2
      · left
        rwa [finish_controller, update_st, setLine_controller, hcontroller] at hstop

end EndFrame

end Sys2Proof.Machine
end

section
/-! The law of the lines, kept by every operation. -/

namespace Sys2Proof.Machine

namespace State.LinesConsistent

variable {s t : State}

theorem opens_of_owns (hs : s.LinesConsistent) {i : Slot} {k : Key} (h : s.Owns i k) :
    (s.line k.line).state.opens = true := by
  obtain ⟨a, ha, hl, rfl⟩ := h
  exact hs.live i a ha hl

/-- Lines stay consistent and open, owners come on open lines alone, and a stopped controller has idle transmitters. -/
theorem change (hs : s.LinesConsistent) (hlines : ∀ l, (t.line l).Consistent)
    (howns : ∀ i k, t.Owns i k →
      (s.Owns i k ∧ ((s.line k.line).state.opens = true → (t.line k.line).state.opens = true)) ∨
      (t.line k.line).state.opens = true)
    (hstop : t.controller = .stopped → t.bothIdle = true) : t.LinesConsistent where
  each := hlines
  live := fun i a ha hl => (howns i a.key ⟨a, ha, hl, rfl⟩).elim (fun ⟨h, ho⟩ => ho (hs.opens_of_owns h)) id
  stopped := hstop

/-- Lines and controller stay, and no owner comes. -/
theorem keep (hs : s.LinesConsistent) (hlines : ∀ l, t.line l = s.line l) (howns : ∀ i k, t.Owns i k → s.Owns i k)
    (hcontroller : t.controller = s.controller) : t.LinesConsistent :=
  hs.change (fun l => hlines l ▸ hs.each l) (fun i k h => .inl ⟨howns i k h, fun ho => by rwa [hlines]⟩) fun h => by
    rw [bothIdle_iff]
    intro l
    rw [hlines]
    exact (bothIdle_iff s).1 (hs.stopped (hcontroller ▸ h)) l

/-- A record is replaced by one of the same key and liveness. -/
theorem replace (hs : s.LinesConsistent) {i : Slot} {a b : Assoc} (ha : s.assocAt i = some a) (hb : t.assocAt i = some b)
    (hother : ∀ j, j ≠ i → t.assocAt j = s.assocAt j) (hkey : b.key = a.key) (hlive : b.state.isLive = a.state.isLive)
    (hlines : ∀ l, t.line l = s.line l) (hcontroller : t.controller = s.controller) : t.LinesConsistent :=
  hs.keep hlines (fun j k h => (owns_replace ha hb hother hkey hlive j k).1 h) hcontroller

/-- One association comes onto an open line. -/
theorem create (hs : s.LinesConsistent) {i : Slot} {a : Assoc} (hself : t.assocAt i = some a)
    (hother : ∀ j, j ≠ i → t.assocAt j = s.assocAt j) (hopen : (s.line a.key.line).state.opens = true)
    (hlines : ∀ l, t.line l = s.line l) (hcontroller : t.controller = s.controller) : t.LinesConsistent :=
  hs.change (fun l => hlines l ▸ hs.each l) (fun j k h => by
      rw [hlines]
      by_cases hj : j = i
      · rw [hj, owns_of_some hself] at h
        exact .inr (h.2 ▸ hopen)
      · exact .inl ⟨(owns_congr (hother j hj) k).1 h, id⟩) fun h => by
    rw [bothIdle_iff]
    intro l
    rw [hlines]
    exact (bothIdle_iff s).1 (hs.stopped (hcontroller ▸ h)) l

/-- One line changes, and as many associations may stand on it as before. -/
theorem setLine (hs : s.LinesConsistent) {l : Line} {q : LineRecord} (hq : q.Consistent)
    (hopens : (s.line l).state.opens = true → q.state.opens = true)
    (hidle : s.controller = .stopped → (s.line l).tx = .idle → q.tx = .idle) : (s.setLine l q).LinesConsistent := by
  refine hs.change (fun m => ?_) (fun i k h => .inl ⟨?_, ?_⟩) fun h => (bothIdle_iff _).2 fun m => ?_
  · by_cases hm : m = l
    · rw [hm, line_setLine_self]
      exact hq
    · rw [line_setLine_of_ne s hm]
      exact hs.each m
  · rwa [owns_congr (assocAt_setLine s l q i)] at h
  · by_cases hm : k.line = l
    · rw [hm, line_setLine_self]
      exact hopens
    · rw [line_setLine_of_ne s hm]
      exact id
  · rw [setLine_controller] at h
    have hall := (bothIdle_iff s).1 (hs.stopped h)
    by_cases hm : m = l
    · rw [hm, line_setLine_self]
      exact hidle h (hall l)
    · rw [line_setLine_of_ne s hm]
      exact hall m

/-- The frame on a line that is no longer ACTIVE is cut: only its transmitter had kept the line from being consistent. -/
theorem cut {u : State} {l : Line} (hs : s.LinesConsistent) (hother : ∀ m, m ≠ l → u.line m = s.line m)
    (hline : ∀ o, ({ u.line l with tx := .idle, txOut := o } : LineRecord).Consistent)
    (howns : ∀ i k, u.Owns i k → s.Owns i k ∧ (k.line = l → (u.line l).state.opens = true))
    (hcontroller : u.controller = s.controller) : (u.cutFrame l).LinesConsistent := by
  obtain ⟨⟨o, hself⟩, hlines, howners, hstop⟩ := endFrame_facts u l .abortPattern
  refine hs.change (fun m => ?_) (fun i k h => ?_) fun h => ?_
  · by_cases hm : m = l
    · subst hm
      exact (congrArg LineRecord.Consistent hself).mpr (hline o)
    · exact (congrArg LineRecord.Consistent ((hlines m hm).trans (hother m hm))).mpr (hs.each m)
  · obtain ⟨hold, hopen⟩ := howns i k ((howners i k).1 h)
    by_cases hm : k.line = l
    · right
      have hstate : ((u.cutFrame l).line l).state = (u.line l).state := by
        rw [State.cutFrame, hself]
      rw [hm, hstate]
      exact hopen hm
    · exact .inl ⟨hold, fun ho => (congrArg (fun r => r.state.opens) ((hlines _ hm).trans (hother _ hm))).trans ho⟩
  · obtain hstopped | hidle := hstop h
    · have hall := (bothIdle_iff s).1 (hs.stopped (hcontroller ▸ hstopped))
      refine (bothIdle_iff _).2 fun m => ?_
      by_cases hm : m = l
      · rw [hm]
        exact congrArg LineRecord.tx hself
      · exact (congrArg LineRecord.tx ((hlines m hm).trans (hother m hm))).trans (hall m)
    · exact hidle

end State.LinesConsistent

theorem linesConsistent_setAssoc {s : State} (hs : s.LinesConsistent) {i : Slot} {a b : Assoc} (ha : s.assocAt i = some a)
    (hkey : b.key = a.key) (hlive : b.state.isLive = a.state.isLive) : (s.setAssoc i b).LinesConsistent :=
  hs.keep (fun _ => rfl) (fun j k h => (owns_setAssoc ha hkey hlive j k).1 h) rfl

theorem consistent_reasons {r : LineRecord} (h : r.Consistent) (x : LineReasons) :
    ({ r with reasons := x } : LineRecord).Consistent := { h with }

theorem linesConsistent_reasonBlind : ReasonBlind State.LinesConsistent where
  attention := fun _ hs => hs.keep (fun _ => rfl) (fun _ _ h => h) rfl
  slot := fun _ hs ha => linesConsistent_setAssoc hs ha rfl rfl
  line := fun l x hs => hs.setLine (consistent_reasons (hs.each l) x) id fun _ h => h

theorem linesConsistent_raiseGrant {s : State} (hs : s.LinesConsistent) {i : Slot} {a : Assoc} {n : Nat}
    (ha : s.assocAt i = some a) : (s.raiseGrant i a n).LinesConsistent := by
  have hraised : (a.raised n).key = a.key ∧ (a.raised n).state = a.state := by rw [raised_eq]; exact ⟨rfl, rfl⟩
  exact hs.keep (fun _ => rfl) (fun j k h => (owns_replace ha (assocAt_raiseGrant_self s i a n)
    (fun _ hj => assocAt_raiseGrant_of_ne s i a n hj) hraised.1 (by rw [hraised.2]) j k).1 h) rfl

theorem linesConsistent_endAssoc {c : Claim} (hs : c.st.LinesConsistent) (i : Slot) (cause : EndCause) :
    (c.endAssoc i cause).st.LinesConsistent :=
  hs.keep (fun l => line_endAssoc c i cause l) (fun _ _ h => owns_endAssoc h) (controller_endAssoc c i cause)

theorem linesConsistent_admitted {s : State} (hs : s.LinesConsistent) {l : Line} {f : Frame} {limit credit : Nat}
    {n : ListenNo} {i : Slot} (hactive : (s.line l).state = .active) : (s.admitted l f limit credit n i).LinesConsistent := by
  obtain ⟨a, he, -, hkey, -⟩ := admittedAssoc_facts l f limit credit n (s.listenAt n)
  refine hs.create (he ▸ assocAt_admitted_self s l f limit credit n i)
    (fun _ hj => assocAt_admitted_of_ne s i l f limit credit n hj) ?_ (fun m => line_admitted s i l f limit credit n m) rfl
  rw [hkey]
  exact congrArg LineState.opens hactive

/-- Consistency of a line with no frame on the wire, by its other parts. -/
theorem consistent_of_idle {r : LineRecord} (hr : r.Consistent) {q : LineRecord} (htx : q.tx = .idle)
    (hreplies : q.replies = r.replies ∨ q.replies = []) (hburst : q.burst = r.burst ∨ q.burst = 0)
    (hgrace : q.state = .suspended ↔ q.graceTimer ≠ .stopped) (hcarrier : q.state = .active → q.carrier = true) :
    q.Consistent where
  replies := by
    obtain h | h := hreplies <;> rw [h]
    · exact hr.replies
    · exact ⟨Nat.zero_le _, List.nodup_nil⟩
  burst := by
    obtain h | h := hburst <;> rw [h]
    · exact hr.burst
    · exact Nat.zero_le _
  sending := fun h => absurd htx h
  grace := hgrace
  carrier := hcarrier

theorem linesConsistent_coreLaw : CoreLaw State.LinesConsistent where
  frame := fun _ _ _ _ hs => hs.keep (fun _ => rfl) (fun _ _ h => h) rfl
  settings := fun _ _ _ hs => hs.keep (fun _ => rfl) (fun _ _ h => h) rfl
  attend := fun t hs _ _ => linesConsistent_reasonBlind.attention t hs
  takeNotice := linesConsistent_reasonBlind.takeNotice
  control := fun ct hs hstop => ⟨hs.each, hs.live, hstop⟩
  revise := fun hs ha hab => linesConsistent_setAssoc hs ha hab.key hab.live
  reviseLine := fun hs hq => hs.setLine (hq.consistent (hs.each _)) hq.opens fun _ h => hq.tx.trans h
  raiseSlot := linesConsistent_reasonBlind.raiseSlot
  raiseLine := linesConsistent_reasonBlind.raiseLine
  raiseGrant := fun hs ha _ _ _ => linesConsistent_raiseGrant hs ha
  endAssoc := fun cause hs _ _ => linesConsistent_endAssoc hs _ cause
  opening := fun {s} {i} k p hs hopen _ _ _ => hs.create (assocAt_create_self s i _)
    (fun _ hj => assocAt_create_of_ne s i hj _) hopen (fun _ => by simp) rfl
  admission := fun hs hactive _ _ _ => linesConsistent_admitted hs hactive
  submit := fun {s} {i} {a} {b} n hs ha _ _ _ => by
    obtain ⟨x, he⟩ := submitted_facts a b n
    rw [he]
    exact hs.replace ha (assocAt_setAssoc_self _ i _) (fun _ hj => assocAt_setAssoc_of_ne _ hj _) rfl rfl (fun _ => rfl) rfl
  takeMessage := fun {s} {i} {a} {e} {rest} hs ha _ =>
    (linesConsistent_setAssoc (b := { a with inboundQueue := rest }) hs ha rfl rfl).keep (fun _ => rfl) (fun _ _ h => h) rfl
  allocate := fun hs _ _ => hs.keep (fun _ => rfl) (fun _ _ h => h) rfl
  giveBuffer := fun hs _ => hs.keep (fun _ => rfl) (fun _ _ h => h) rfl
  release := fun {c} {i} {a} hs ha hl => by
    refine hs.keep (fun _ => by rw [release_st]; rfl) (fun j k h => ?_) (by rw [release_st]; rfl)
    by_cases hj : j = i
    · exact absurd h (hj ▸ not_owns_of_none (assocAt_release_self i c a) k)
    · exact (owns_congr (assocAt_release_of_ne i c a hj) k).1 h
  receipted := fun {c} {i} {a} {next} {credit} hs ha hsend _ _ => by
    obtain ⟨b, he, hlive, hkey, -⟩ := receipted_facts next credit hsend
    rw [he, releaseAll_st]
    exact hs.replace ha (assocAt_setAssoc_self _ i _) (fun _ hj => assocAt_setAssoc_of_ne _ hj _) hkey
      (hlive.trans (isLive_of_sends hsend).symm) (fun _ => rfl) rfl
  send := fun {s} {l} {f} {src} {buffer} {replies} {burst} cp dp hs hbegin hreplies hburst _ => by
    have hconsistent := hs.each l
    simp only [State.mayBegin, Bool.and_eq_true, decide_eq_true_eq, State.running] at hbegin
    obtain ⟨⟨-, hrun⟩, hactive⟩ := hbegin
    refine hs.setLine ?_ id fun hstop => by rw [hrun] at hstop; cases hstop
    exact { hconsistent with
      replies := ⟨hreplies.length_le.trans hconsistent.replies.1, hconsistent.replies.2.sublist hreplies⟩
      burst := hburst hconsistent.burst
      sending := fun _ => hactive }
  frameEnd := fun {s} {l} {r} out hs _ => by
    rw [update_st, retire_frame]
    have hpool : (((Claim.begin s).st.setPool _).LinesConsistent) := hs.keep (t := (Claim.begin s).st.setPool
      ({ (Claim.begin s).st.pool with
        bufferState := ((Claim.begin s).retire r.buffer).st.pool.bufferState
        freeList := ((Claim.begin s).retire r.buffer).st.pool.freeList })) (fun _ => rfl) (fun _ _ h => h) rfl
    have hline := hpool.each l
    exact hpool.setLine (consistent_of_idle hline rfl (.inl rfl) (.inl rfl) hline.grace hline.carrier) id fun _ _ => rfl
  listenSet := fun _ hs _ => hs.keep (fun _ => by simp) (fun _ _ h => h) rfl
  clearAll := fun {s} hs hstop => by
    refine hs.change (fun l => ?_) (fun i k h => absurd h (not_owns_of_none (assocAt_clearAll s i) k)) fun _ => ?_
    · rw [line_clearAll]
      have hline := hs.each l
      exact consistent_of_idle hline rfl (.inr rfl) (.inr rfl) hline.grace hline.carrier
    · exact (bothIdle_iff _).2 fun l => by rw [line_clearAll]; rfl

theorem linesConsistent_law : Law State.LinesConsistent :=
  { linesConsistent_coreLaw with
    restart := fun hs _ _ hactive _ _ =>
      linesConsistent_admitted (linesConsistent_endAssoc hs _ _) (by rw [line_endAssoc]; exact hactive)
    accept := linesConsistent_coreLaw.accept_of fun hs ha _ _ => linesConsistent_raiseGrant hs ha
    carrierLoss := fun {s} {l} hs hactive => by
      obtain ⟨-, hself, hother, -⟩ := raiseLine_facts (s.setLine l (s.line l).suspend) l .suspended
      rw [line_setLine_self] at hself
      have hsuspend : (s.line l).suspend = { s.line l with
          carrier := false, state := .suspended, graceTimer := .counting (s.line l).grace, rx := .hunting 0,
          tallies := (s.line l).suspend.tallies } := by
        unfold LineRecord.suspend
        rw [dropReception_eq]
        rfl
      refine hs.cut (fun m hm => by rw [hother m hm, line_setLine_of_ne s hm]) (fun o => ?_) (fun i k h => ⟨?_, fun _ => ?_⟩)
        (by simp)
      · rw [hself, hsuspend]
        exact consistent_of_idle (hs.each l) rfl (.inl rfl) (.inl rfl) (by simp) (by simp)
      · exact (owns_congr (u := s) (by simp) k).1 h
      · rw [hself, hsuspend]
        rfl
    goDown := fun {s} {l} hs hdown => by
      obtain ⟨hlost, hself⟩ := lineLost_goDown s l
      have htx : ∀ m, ((s.goDown l).line m).tx = (s.line m).tx := fun m => by
        by_cases hm : m = l
        · rw [hm, hself]
        · rw [hlost.line m hm]
      refine hs.change (fun m => ?_) (fun i k h => ?_) fun h => ?_
      · by_cases hm : m = l
        · have hidle : (s.line l).tx = .idle := Classical.byContradiction fun hsend => by
            have := (hs.each l).sending hsend
            rw [hdown] at this
            cases this
          rw [hm, hself]
          exact consistent_of_idle (hs.each l) hidle (.inr rfl) (.inr rfl) (by simp) (by simp)
        · rw [hlost.line m hm]
          exact hs.each m
      · obtain ⟨hold, hne⟩ := owns_of_lineLost hlost h
        exact .inl ⟨hold, fun ho => by rwa [hlost.line _ hne]⟩
      · rw [hlost.controller] at h
        exact (bothIdle_iff _).2 fun m => (htx m).trans ((bothIdle_iff s).1 (hs.stopped h) m)
    disableLine := fun {s} {l} hs hstate => by
      obtain ⟨hlost, hself⟩ := lineLost_disable s l
      unfold State.disableLine
      rw [if_neg hstate]
      refine hs.cut hlost.line (fun o => ?_) (fun i k h => ?_) hlost.controller
      · rw [hself, dropReception_eq]
        exact consistent_of_idle (hs.each l) rfl (.inr rfl) (.inr rfl) (by simp) (by simp)
      · obtain ⟨hold, hne⟩ := owns_of_lineLost hlost h
        exact ⟨hold, fun hl => absurd hl hne⟩ }

theorem linesConsistent_writeLaw : WriteLaw State.LinesConsistent where
  deviceReset := fun {s} b hs => by
    refine hs.change (fun l => ?_) (fun i k h => absurd h (not_owns_of_none (assocAt_deviceReset s i b) k)) fun _ => ?_
    · rw [line_deviceReset]
      exact ⟨⟨Nat.zero_le _, List.nodup_nil⟩, Nat.zero_le _, fun h => absurd rfl h, by simp [LineRecord.reset],
        fun h => by cases h⟩
    · exact (bothIdle_iff _).2 fun l => by rw [line_deviceReset]; rfl
  acceptData := fun {s} {i} {a} {payload} {b} {rest} hs ha _ _ _ _ => by
    obtain ⟨x, y, he⟩ := acceptedData_facts a b payload.length
    rw [he]
    exact hs.replace ha (assocAt_setAssoc_self _ i _) (fun _ hj => assocAt_setAssoc_of_ne _ hj _) rfl rfl (fun _ => rfl) rfl
  writeWindow := fun _ _ _ _ hs => hs.keep (fun _ => rfl) (fun _ _ h => h) rfl

/-- Settles O11: the operations that leave a line's parts at odds for a while, the losses of a line, put them right at their end. -/
theorem linesStayConsistent : Obligations.LinesStayConsistent :=
  fun _ _ hs ht => linesConsistent_law.step linesConsistent_writeLaw
    (fun _ _ hs => hs.keep (fun _ => rfl) (fun _ _ h => h) rfl) hs ht

end Sys2Proof.Machine
end

section
/-! Expiries and whole ticks: the rows of section 9.5 (R45, R59, R79 to R81, R89, R185), and TICK (R155). -/

namespace Sys2Proof.Machine

theorem exec_tick_some (s : State) (x : TimerName) : exec (.tick (some x)) s = .next (s.tickAt x) := rfl

theorem exec_tick_none (s : State) : exec (.tick none) s = .next (if s.ticks then s.tickAll else s) := rfl

/-! ### The expiries of an association's timers -/

section Expire

variable {s : State} {i : Slot} {a : Assoc}

theorem expire_assocState (x : TimerName) (h : s.assocAt i = some a) :
    (s.tickNoted x).expire (.assocState i) = (s.tickNoted x).stateExpires i a := by
  simp [State.expire, h]

theorem expire_receipt (x : TimerName) (h : s.assocAt i = some a) :
    (s.tickNoted x).expire (.receipt i) = (s.tickNoted x).receiptExpires i a := by
  simp [State.expire, h]

theorem slotIn_of_some (h : s.assocAt i = some a) (ok : AssocState → Bool) : s.slotIn i ok = ok a.state := by
  simp [State.slotIn, h]

/-- Beyond the retry limit the association ends (R66). -/
theorem bumpRetry_of_over (go : Assoc → Assoc) (h : a.params.retryLimit < a.retryCount + 1) : s.bumpRetry i a go =
    ((Claim.begin (s.setAssoc i { a with retryCount := a.retryCount + 1, stateTimer := .stopped })).endAssoc i
      .noResponse).finish :=
  if_pos h

theorem bumpRetry_of_within (go : Assoc → Assoc) (h : a.retryCount + 1 ≤ a.params.retryLimit) : s.bumpRetry i a go =
    s.setAssoc i (go { a with retryCount := a.retryCount + 1, stateTimer := .stopped }) :=
  if_neg (Nat.not_lt.2 h)

/-- Going back or owing PROBE, by one record (R79, R80): a stall has nothing unreceipted. -/
theorem resend_eq (a : Assoc) : a.resend = { a with
    nextToSend := if tagDistance a.sendBase a.nextToSend = 0 then a.nextToSend else a.sendBase
    pendingControl := { a.pendingControl with probe := a.pendingControl.probe || decide a.IsStalled } } := by
  unfold Assoc.resend
  by_cases hu : tagDistance a.sendBase a.nextToSend = 0
  · rw [if_neg (show ¬ 0 < a.unreceipted from Nat.not_lt.2 (Nat.le_of_eq hu)), if_pos hu]
    by_cases hst : a.IsStalled
    · rw [if_pos ((stalled_iff a).2 hst), decide_eq_true hst, Bool.or_true]
      rfl
    · rw [if_neg fun h => hst ((stalled_iff a).1 h), decide_eq_false hst, Bool.or_false]
  · have hnot : ¬ a.IsStalled := fun h => hu h.2.1
    rw [if_pos (show 0 < a.unreceipted from Nat.pos_of_ne_zero hu), if_neg hu, decide_eq_false hnot, Bool.or_false]

end Expire

/-- An expiry row of an association's timer whose event does not occur. -/
theorem expiryAt_of_frozen {s : State} {x : TimerName} {line : Line} {t : Timer} {owner : Bool}
    (hcount : s.mayCount x = true ↔ s.TimersCount line) (htimer : s.timerAt x = t)
    (h : ¬ s.tickOpen x ∨ ¬ s.TimersCount line ∨ t.survives True ∨ owner = false) : s.expiryAt x owner = s := by
  refine expiryAt_of_not fun howner hopen hexp => ?_
  obtain hclosed | hfrozen | hsurvives | hother := h
  · exact hclosed hopen
  · exact not_expiresAt_of_frozen (fun hc => hfrozen (hcount.1 hc)) hexp
  · exact not_expiresAt_of_survives (htimer ▸ hsurvives) hexp
  · rw [howner] at hother
    cases hother

/-- Settles O41: a row is the tick at the state timer, whose expiry is the retry of the state that the association holds. -/
theorem retryExpiries : Obligations.RetryExpiries := by
  rintro s i a x ha rfl
  have hcount := mayCount_assocState ha
  have htimer := timerAt_assocState ha
  have hfrozen {ok : AssocState → Bool} (h : ok a.state = false) : s.expiryAt (.assocState i) (s.slotIn i ok) = s :=
    expiryAt_of_frozen hcount htimer (.inr (.inr (.inr (by rw [slotIn_of_some ha, h]))))
  refine ⟨fun c hc => ?_, fun h => ?_, fun h1 h2 => ?_, fun h => ?_⟩
  · have hrow : exec c s = .next (s.expiryAt (.assocState i) true) := by
      obtain ⟨rfl, hst⟩ | ⟨rfl, hst⟩ | ⟨rfl, hst⟩ := hc
      · refine congrArg (fun b => Host.Outcome.next (s.expiryAt (.assocState i) b)) ?_
        rw [slotIn_of_some ha, decide_eq_true hst]
      · refine congrArg (fun b => Host.Outcome.next (s.expiryAt (.assocState i) b)) ?_
        rw [slotIn_of_some ha, (sends_iff _).2 hst]
      · refine congrArg (fun b => Host.Outcome.next (s.expiryAt (.assocState i) b)) ?_
        rw [slotIn_of_some ha, decide_eq_true hst]
    have hgo : ∃ go, (s.tickNoted (.assocState i)).stateExpires i a = (s.tickNoted (.assocState i)).bumpRetry i a go ∧
        (a.state = .opening → go = fun b => b.owe .openRequest) ∧ (a.state = .closing → go = fun b => b.owe .close) ∧
        (a.state = .opened ∨ a.state = .draining → go = Assoc.resend) := by
      unfold State.stateExpires
      obtain ⟨-, hst⟩ | ⟨-, hst | hst⟩ | ⟨-, hst⟩ := hc <;> rw [hst] <;> exact ⟨_, rfl, by simp⟩
    obtain ⟨go, hgo, hopening, hclosing, hsending⟩ := hgo
    refine ⟨fun h => ?_, fun hopen hcounts hlast => ?_⟩
    · rw [hrow, expiryAt_of_frozen hcount htimer (h.imp_right fun h => h.imp_right .inl)]
    have hexpire : s.expiryAt (.assocState i) true = (s.tickNoted (.assocState i)).bumpRetry i a go := by
      rw [expiryAt_of_last hopen (hcount.2 hcounts) (htimer.trans hlast), expire_assocState _ ha, hgo]
    have htick : exec (.tick (some (.assocState i))) s = .next ((s.tickNoted (.assocState i)).bumpRetry i a go) := by
      rw [exec_tick_some, tickAt_of_last hopen (hcount.2 hcounts) (htimer.trans hlast), expire_assocState _ ha, hgo]
    rw [hrow, hexpire]
    refine ⟨htick, fun hover => by rw [bumpRetry_of_over go hover], fun hwithin => ?_⟩
    rw [bumpRetry_of_within go hwithin]
    refine ⟨fun hst => ?_, fun hst => ?_, fun hst => ?_⟩
    · rw [hopening hst]
      rfl
    · rw [hclosing hst]
      rfl
    · rw [hsending hst, resend_eq]
  · exact congrArg Host.Outcome.next (hfrozen (decide_eq_false h))
  · refine congrArg Host.Outcome.next (hfrozen ?_)
    rw [← Bool.not_eq_true, sends_iff]
    exact fun h => h.elim h1 h2
  · exact congrArg Host.Outcome.next (hfrozen (decide_eq_false h))

/-- Settles O42: each row is the tick at its timer. -/
theorem otherExpiries : Obligations.OtherExpiries := by
  refine ⟨fun s i a ha => ⟨?_, ?_⟩, fun s => ⟨fun h => ?_, fun hopen hlast => ?_⟩⟩
  · rintro x rfl
    have hcount := mayCount_assocState ha
    have htimer := timerAt_assocState ha
    refine ⟨fun h => ?_, fun hopen hcounts hlast hst => ?_⟩
    · refine congrArg Host.Outcome.next (expiryAt_of_frozen hcount htimer ?_)
      rw [slotIn_of_some ha]
      exact h.imp_right fun h => h.imp_right fun h => h.imp_right fun h => decide_eq_false h
    · have hexpire : (s.tickNoted (.assocState i)).expire (.assocState i) =
          (s.tickNoted (.assocState i)).offerExpires i a := by
        rw [expire_assocState _ ha, State.stateExpires, hst]
      have htick := tickAt_of_last hopen (hcount.2 hcounts) (htimer.trans hlast)
      have hrow : s.expiryAt (.assocState i) (s.slotIn i fun st => st = .offered) =
          (s.tickNoted (.assocState i)).offerExpires i a := by
        rw [slotIn_of_some ha, decide_eq_true hst, expiryAt_of_last hopen (hcount.2 hcounts) (htimer.trans hlast), hexpire]
      exact ⟨congrArg Host.Outcome.next ((htick.trans hexpire).trans hrow.symm), congrArg Host.Outcome.next hrow⟩
  · rintro x rfl
    have hcount := mayCount_receipt ha
    have htimer := timerAt_receipt ha
    refine ⟨fun h => ?_, fun hopen hcounts hlast hst => ?_⟩
    · refine congrArg Host.Outcome.next (expiryAt_of_frozen hcount htimer ?_)
      rw [slotIn_of_some ha]
      exact h
    · have hexpire : (s.tickNoted (.receipt i)).expire (.receipt i) = (s.tickNoted (.receipt i)).setAssoc i { a with
          receiptTimer := .stopped, pendingControl := { a.pendingControl with receipt := true } } := by
        rw [expire_receipt _ ha, State.receiptExpires, hst]
        rfl
      have htick := tickAt_of_last hopen (hcount.2 hcounts) (htimer.trans hlast)
      have hrow : s.expiryAt (.receipt i) (s.slotIn i AssocState.receives) = (s.tickNoted (.receipt i)).expire (.receipt i) := by
        rw [slotIn_of_some ha, hst, expiryAt_of_last hopen (hcount.2 hcounts) (htimer.trans hlast)]
      exact ⟨congrArg Host.Outcome.next (htick.trans hrow.symm), congrArg Host.Outcome.next (hrow.trans hexpire)⟩
  · refine congrArg Host.Outcome.next (expiryAt_of_not fun _ hopen hexp => ?_)
    exact h.elim (fun h => h hopen) fun h => not_expiresAt_of_survives (x := .holdoff) h hexp
  · have htick := tickAt_of_last (x := .holdoff) hopen rfl hlast
    have hrow := expiryAt_of_last (x := .holdoff) hopen rfl hlast
    exact ⟨congrArg Host.Outcome.next (htick.trans hrow.symm), congrArg Host.Outcome.next hrow⟩

/-! ### A whole tick -/

/-- `p` applied to the timer where the timer is one of those that have taken the tick. -/
def Timer.takenBy (counts : Prop) [Decidable counts] (took : Prop) [Decidable took] (t : Timer) : Timer :=
  if took then t.afterTick counts else t

/-- `u` is `s` after the timers `xs` took the tick and none expired. -/
structure State.TickedTo (s : State) (xs : List TimerName) (u : State) : Prop where
  blocks : u = { s with timebase := u.timebase, table := u.table, lineA := u.lineA, lineB := u.lineB, attention := u.attention }
  taken : ∀ x, x ∈ u.timebase.taken.getD [] ↔ x ∈ xs
  phase : u.timebase = { s.timebase with phase := if xs = [] then s.timebase.phase else 0, taken := u.timebase.taken }
  started : u.timebase.taken = none ↔ xs = []
  line : ∀ l, u.line l = { s.line l with
    graceTimer := (s.line l).graceTimer.takenBy (s.controller = .running) (.grace l ∈ xs) }
  attention : u.attention = { s.attention with holdoffTimer := s.attention.holdoffTimer.takenBy True (.holdoff ∈ xs) }
  generations : ∀ i, u.generation i = s.generation i
  free : ∀ i, s.assocAt i = none → u.assocAt i = none
  records : ∀ i a, s.assocAt i = some a → u.assocAt i = some { a with
    stateTimer := a.stateTimer.takenBy (s.TimersCount a.key.line) (.assocState i ∈ xs)
    receiptTimer := a.receiptTimer.takenBy (s.TimersCount a.key.line) (.receipt i ∈ xs) }

section Whole

variable {s u : State} {xs : List TimerName} {x : TimerName}

@[simp] theorem takenBy_of_not {counts took : Prop} [Decidable counts] [Decidable took] (t : Timer) (h : ¬ took) :
    t.takenBy counts took = t := if_neg h

theorem takenBy_cons_self {counts : Prop} [Decidable counts] (t : Timer) :
    t.takenBy counts (x ∈ x :: xs) = t.afterTick counts := if_pos List.mem_cons_self

theorem takenBy_cons_of_ne {counts : Prop} [Decidable counts] (t : Timer) {y : TimerName} (h : y ≠ x) :
    t.takenBy counts (y ∈ x :: xs) = t.takenBy counts (y ∈ xs) := by
  unfold Timer.takenBy
  by_cases hy : y ∈ xs
  · rw [if_pos hy, if_pos (List.mem_cons_of_mem _ hy)]
  · rw [if_neg hy, if_neg fun hc => hy ((List.mem_cons.1 hc).resolve_left h)]

@[simp] theorem takenBy_of {counts took : Prop} [Decidable counts] [Decidable took] (t : Timer) (h : took) :
    t.takenBy counts took = t.afterTick counts := if_pos h

/-- A timer of the part may count under a condition of the state, and this tick is not its last. -/
def State.Survives (s : State) : TimerName → Prop
  | .assocState i => ∀ a, s.assocAt i = some a → a.stateTimer.survives (s.TimersCount a.key.line)
  | .receipt i => ∀ a, s.assocAt i = some a → a.receiptTimer.survives (s.TimersCount a.key.line)
  | .grace l => (s.line l).graceTimer.survives (s.controller = .running)
  | .holdoff => s.attention.holdoffTimer.survives True

namespace State.TickedTo

theorem start (h : s.timebase.taken = none) : s.TickedTo [] s where
  blocks := rfl
  taken := fun x => by simp [h]
  phase := rfl
  started := iff_of_true h rfl
  line := fun l => by simp
  attention := by simp
  generations := fun _ => rfl
  free := fun _ h => h
  records := fun i a ha => by simpa using ha

section Step

variable (h : s.TickedTo xs u)

include h

theorem tickOpen (hticks : s.resetAsserted = false ∧ s.timebase.interval ≠ 0) (hx : x ∉ xs) : u.tickOpen x := by
  refine ⟨by rw [h.blocks]; exact hticks.1, by rw [h.phase]; exact hticks.2, fun ys hys hmem => hx ((h.taken x).1 ?_)⟩
  rw [hys]
  exact hmem

theorem controller : u.controller = s.controller := by rw [h.blocks]

theorem timersCount (l : Line) : u.TimersCount l ↔ s.TimersCount l := by
  unfold State.TimersCount
  rw [h.controller, h.line]

/-- The note of a further timer. -/
theorem note : (u.tickNoted x).timebase = { s.timebase with
    phase := 0, taken := some (x :: u.timebase.taken.getD []) } ∧
      ∀ y, y ∈ x :: u.timebase.taken.getD [] ↔ y ∈ x :: xs := by
  refine ⟨?_, fun y => by rw [List.mem_cons, List.mem_cons, h.taken]⟩
  have hphase := h.phase
  by_cases hxs : xs = []
  · rw [State.tickNoted, if_pos (h.started.2 hxs), hphase]
  · rw [State.tickNoted, if_neg fun ht => hxs (h.started.1 ht)]
    rw [if_neg hxs] at hphase
    rw [hphase]

/-- A further timer takes the tick: note it, and change the timers alone. -/
theorem extend {v : State}
    (hblocks : v = { u.tickNoted x with table := v.table, lineA := v.lineA, lineB := v.lineB, attention := v.attention })
    (hline : ∀ l, v.line l = { s.line l with
      graceTimer := (s.line l).graceTimer.takenBy (s.controller = .running) (.grace l ∈ x :: xs) })
    (hattention : v.attention = { s.attention with
      holdoffTimer := s.attention.holdoffTimer.takenBy True (.holdoff ∈ x :: xs) })
    (hgenerations : ∀ i, v.generation i = s.generation i) (hfree : ∀ i, s.assocAt i = none → v.assocAt i = none)
    (hrecords : ∀ i a, s.assocAt i = some a → v.assocAt i = some { a with
      stateTimer := a.stateTimer.takenBy (s.TimersCount a.key.line) (.assocState i ∈ x :: xs)
      receiptTimer := a.receiptTimer.takenBy (s.TimersCount a.key.line) (.receipt i ∈ x :: xs) }) :
    s.TickedTo (x :: xs) v := by
  obtain ⟨hnote, htaken⟩ := h.note
  have htimebase : v.timebase = (u.tickNoted x).timebase := by rw [hblocks]
  rw [hnote] at htimebase
  refine ⟨?_, fun y => by rw [htimebase]; exact htaken y, ?_, ?_, hline, hattention, hgenerations, hfree, hrecords⟩
  · have hu := h.blocks
    rw [hblocks, hu]
    rfl
  · rw [htimebase]
    rfl
  · rw [htimebase]
    exact iff_of_false nofun (List.cons_ne_nil _ _)

theorem lines_cons (hx : ∀ l, TimerName.grace l ≠ x) (l : Line) : u.line l = { s.line l with
    graceTimer := (s.line l).graceTimer.takenBy (s.controller = .running) (.grace l ∈ x :: xs) } := by
  rw [takenBy_cons_of_ne _ (hx l)]
  exact h.line l

theorem attention_cons (hx : TimerName.holdoff ≠ x) : u.attention = { s.attention with
    holdoffTimer := s.attention.holdoffTimer.takenBy True (.holdoff ∈ x :: xs) } := by
  rw [takenBy_cons_of_ne _ hx]
  exact h.attention

theorem records_cons {i : Slot} (hx : .assocState i ≠ x ∧ .receipt i ≠ x) {a : Assoc} (ha : s.assocAt i = some a) :
    u.assocAt i = some { a with
      stateTimer := a.stateTimer.takenBy (s.TimersCount a.key.line) (.assocState i ∈ x :: xs)
      receiptTimer := a.receiptTimer.takenBy (s.TimersCount a.key.line) (.receipt i ∈ x :: xs) } := by
  rw [takenBy_cons_of_ne _ hx.1, takenBy_cons_of_ne _ hx.2]
  exact h.records i a ha

/-- A timer of a FREE slot takes the tick. -/
theorem tick_free (hticks : s.resetAsserted = false ∧ s.timebase.interval ≠ 0) {i : Slot} (ha : s.assocAt i = none)
    (hx : x ∉ xs) (hname : x = .assocState i ∨ x = .receipt i) : s.TickedTo (x :: xs) (u.tickAt x) := by
  have hu := h.free i ha
  have hstopped : u.timerAt x = .stopped := by
    obtain rfl | rfl := hname <;> simp [State.timerAt, hu]
  have he : u.tickAt x = u.tickNoted x := by
    rw [tickAt_of_open (h.tickOpen hticks hx), State.reach, timerAt_tickNoted, hstopped]
  rw [he]
  refine h.extend rfl (fun l => (line_tickNoted l).trans (h.lines_cons ?_ l)) (h.attention_cons ?_) h.generations
    (fun j hj => h.free j hj) fun j a hj => h.records_cons ?_ hj
  · obtain rfl | rfl := hname <;> simp
  · obtain rfl | rfl := hname <;> simp
  · have hne : j ≠ i := fun e => by
      rw [e, ha] at hj
      cases hj
    obtain rfl | rfl := hname <;> simp [hne]

/-- One more timer takes the tick and is not expired by it. -/
theorem tick (hticks : s.resetAsserted = false ∧ s.timebase.interval ≠ 0) (hx : x ∉ xs) (hs : s.Survives x) :
    s.TickedTo (x :: xs) (u.tickAt x) := by
  have hopen := h.tickOpen hticks hx
  cases x with
  | holdoff =>
    have htimer : u.timerAt .holdoff = s.attention.holdoffTimer := by
      rw [State.timerAt, h.attention]
      exact takenBy_of_not _ hx
    rw [tickAt_of_survives (p := True) hopen (iff_of_true rfl trivial) (htimer ▸ hs), htimer]
    refine h.extend rfl (fun l => ?_) ?_ h.generations (fun j hj => h.free j hj) fun j a hj => h.records_cons (by simp) hj
    · exact (line_tickNoted (x := .holdoff) l).trans (h.lines_cons (fun _ => by simp) l)
    · rw [takenBy_cons_self, State.setTimer, setAttention_attention, attention_tickNoted, h.attention]
  | grace m =>
    have hcount : u.mayCount (.grace m) = true ↔ s.controller = .running := by rw [mayCount_grace, h.controller]
    have htimer : u.timerAt (.grace m) = (s.line m).graceTimer := by
      rw [State.timerAt, h.line]
      exact takenBy_of_not _ hx
    rw [tickAt_of_survives hopen hcount (htimer ▸ hs), htimer]
    refine h.extend (by cases m <;> rfl) (fun l => ?_) ?_ (fun j => ?_) (fun j hj => ?_) fun j a hj => ?_
    · by_cases hl : l = m
      · subst hl
        rw [takenBy_cons_self, State.setTimer, line_setLine_self, line_tickNoted, h.line]
      · rw [State.setTimer, line_setLine_of_ne _ hl, line_tickNoted, takenBy_cons_of_ne _ (by simpa using hl)]
        exact h.line l
    · rw [State.setTimer, setLine_attention]
      exact h.attention_cons (by simp)
    · rw [State.setTimer, generation_setLine]
      exact h.generations j
    · rw [State.setTimer, assocAt_setLine]
      exact h.free j hj
    · rw [State.setTimer, assocAt_setLine]
      exact h.records_cons (by simp) hj
  | assocState i =>
    cases ha : s.assocAt i with
    | none => exact h.tick_free hticks ha hx (.inl rfl)
    | some a =>
      have hu := h.records i a ha
      rw [takenBy_of_not _ hx] at hu
      have hcount := (mayCount_assocState hu).trans (h.timersCount a.key.line)
      have htimer : u.timerAt (.assocState i) = a.stateTimer := by rw [timerAt_assocState hu]
      have hset (t : Timer) : (u.tickNoted (.assocState i)).setTimer t (.assocState i) =
          (u.tickNoted (.assocState i)).setAssoc i { a with
            stateTimer := t
            receiptTimer := a.receiptTimer.takenBy (s.TimersCount a.key.line) (.receipt i ∈ xs) } := by
        simp [State.setTimer, hu]
      rw [tickAt_of_survives hopen hcount (htimer ▸ hs a ha), htimer, hset]
      refine h.extend rfl (fun l => ?_) ?_ (fun j => ?_) (fun j hj => ?_) fun j b hj => ?_
      · rw [line_setAssoc, line_tickNoted]
        exact h.lines_cons (fun _ => by simp) l
      · exact h.attention_cons (by simp)
      · rw [generation_setAssoc]
        exact h.generations j
      · have hne : j ≠ i := fun e => by
          rw [e, ha] at hj
          cases hj
        rw [assocAt_setAssoc_of_ne _ hne]
        exact h.free j hj
      · by_cases hne : j = i
        · subst hne
          rw [ha] at hj
          cases hj
          rw [assocAt_setAssoc_self, takenBy_cons_self, takenBy_cons_of_ne (y := .receipt j) _ (by simp)]
        · rw [assocAt_setAssoc_of_ne _ hne]
          exact h.records_cons (by simpa using hne) hj
  | receipt i =>
    cases ha : s.assocAt i with
    | none => exact h.tick_free hticks ha hx (.inr rfl)
    | some a =>
      have hu := h.records i a ha
      rw [takenBy_of_not _ hx] at hu
      have hcount := (mayCount_receipt hu).trans (h.timersCount a.key.line)
      have htimer : u.timerAt (.receipt i) = a.receiptTimer := by rw [timerAt_receipt hu]
      have hset (t : Timer) : (u.tickNoted (.receipt i)).setTimer t (.receipt i) =
          (u.tickNoted (.receipt i)).setAssoc i { a with
            stateTimer := a.stateTimer.takenBy (s.TimersCount a.key.line) (.assocState i ∈ xs)
            receiptTimer := t } := by
        simp [State.setTimer, hu]
      rw [tickAt_of_survives hopen hcount (htimer ▸ hs a ha), htimer, hset]
      refine h.extend rfl (fun l => ?_) ?_ (fun j => ?_) (fun j hj => ?_) fun j b hj => ?_
      · rw [line_setAssoc, line_tickNoted]
        exact h.lines_cons (fun _ => by simp) l
      · exact h.attention_cons (by simp)
      · rw [generation_setAssoc]
        exact h.generations j
      · have hne : j ≠ i := fun e => by
          rw [e, ha] at hj
          cases hj
        rw [assocAt_setAssoc_of_ne _ hne]
        exact h.free j hj
      · by_cases hne : j = i
        · subst hne
          rw [ha] at hj
          cases hj
          rw [assocAt_setAssoc_self, takenBy_cons_self, takenBy_cons_of_ne (y := .assocState j) _ (by simp)]
        · rw [assocAt_setAssoc_of_ne _ hne]
          exact h.records_cons (by simpa using hne) hj

end Step

/-- Timers that survive take the tick one after another. -/
theorem ticks (hticks : s.resetAsserted = false ∧ s.timebase.interval ≠ 0) (hs : ∀ x, s.Survives x) :
    ∀ {ys xs : List TimerName} {u : State}, s.TickedTo xs u → ys.Nodup → (∀ y ∈ ys, y ∉ xs) →
      s.TickedTo (ys.reverse ++ xs) (ys.foldl State.tickAt u) := by
  intro ys
  induction ys with
  | nil => exact fun h _ _ => h
  | cons y rest ih =>
    intro xs u h hn hout
    obtain ⟨hy, hrest⟩ := List.nodup_cons.1 hn
    have hnext := h.tick hticks (hout y List.mem_cons_self) (hs y)
    have hdone := ih hnext hrest fun z hz hmem => by
      obtain rfl | hmem := List.mem_cons.1 hmem
      · exact hy hz
      · exact hout z (List.mem_cons_of_mem _ hz) hmem
    rw [List.reverse_cons, List.append_assoc]
    exact hdone

end State.TickedTo

end Whole

theorem mem_allTimers (x : TimerName) : x ∈ allTimers := by
  unfold allTimers
  rw [List.mem_append, List.mem_flatMap]
  cases x with
  | holdoff => exact .inl (by simp)
  | grace l => exact .inl (by cases l <;> simp)
  | assocState i => exact .inr ⟨i, mem_allSlots i, by simp⟩
  | receipt i => exact .inr ⟨i, mem_allSlots i, by simp⟩

theorem allTimers_nodup : allTimers.Nodup := by
  unfold allTimers
  refine List.nodup_append.2 ⟨by decide, List.nodup_flatMap.2 ⟨fun i _ => by simp, ?_⟩, fun x hx y hy hxy => ?_⟩
  · refine allSlots_nodup.imp fun {i j} hij => ?_
    simp [Function.onFun, List.Disjoint, hij]
  · obtain ⟨i, -, hi⟩ := List.mem_flatMap.1 hy
    subst hxy
    simp only [List.mem_cons, List.not_mem_nil, or_false] at hx hi
    obtain rfl | rfl | rfl := hx <;> simp at hi

/-- A tick that no timer's expiry is part of (R155). -/
theorem tickAll_of_survives {s : State} (hticks : s.resetAsserted = false ∧ s.timebase.interval ≠ 0)
    (htaken : s.timebase.taken = none) (hs : ∀ x, s.Survives x) :
    ∃ u, s.TickedTo allTimers.reverse u ∧ s.tickAll = u.closeTick := by
  have hdone := (State.TickedTo.start htaken).ticks hticks hs allTimers_nodup fun _ _ => List.not_mem_nil
  rw [List.append_nil] at hdone
  exact ⟨_, hdone, rfl⟩

/-- Settles O40: the tick at one timer is `tickAt_of_survives`, and a whole tick is the tick at every timer once. -/
theorem tickReachesEveryTimer : Obligations.TickReachesEveryTimer := by
  intro s
  refine ⟨fun h which => ?_, fun x hx => congrArg Host.Outcome.next (tickAt_of_closed hx), fun i x ha hx hopen => ?_,
    fun i a x ha hopen => ⟨?_, ?_⟩, ?_, fun hopen hs => ?_,
    fun hreset hinterval => ⟨?_, fun htaken hassoc hgrace hhold => ?_⟩⟩
  · have hnot : ¬ s.ticks = true := fun ht => by
      obtain ⟨hr, hi⟩ := (ticks_iff s).1 ht
      exact h.elim (fun h => by rw [h] at hr; cases hr) hi
    cases which with
    | none => rw [exec_tick_none, if_neg hnot]
    | some x => rw [exec_tick_some, tickAt_of_closed fun ho => hnot ((tickOpen_iff s x).1 ho).1]
  · have hstopped : s.timerAt x = .stopped := by
      obtain rfl | rfl := hx <;> simp [State.timerAt, ha]
    rw [exec_tick_some, tickAt_of_open hopen, State.reach, timerAt_tickNoted, hstopped]
  · rintro rfl hs
    rw [exec_tick_some, tickAt_of_survives hopen (mayCount_assocState ha) (timerAt_assocState ha ▸ hs), timerAt_assocState ha]
    simp [State.setTimer, ha]
  · rintro rfl hs
    rw [exec_tick_some, tickAt_of_survives hopen (mayCount_receipt ha) (timerAt_receipt ha ▸ hs), timerAt_receipt ha]
    simp [State.setTimer, ha]
  · rintro l x rfl hopen hs
    rw [exec_tick_some, tickAt_of_survives hopen (mayCount_grace l) hs, State.setTimer, line_tickNoted]
    rfl
  · rw [exec_tick_some, tickAt_of_survives (x := .holdoff) hopen (iff_of_true rfl trivial) hs]
    rfl
  · have hafter : State.afterTickAt = State.tickAt := rfl
    rw [hafter, exec_tick_none, if_pos ((ticks_iff s).2 ⟨hreset, hinterval⟩), State.tickAll, allTimers]
    exact ⟨_, rfl, rfl⟩
  · have hsurvives (x : TimerName) : s.Survives x := by
      cases x with
      | holdoff => exact hhold
      | grace l => exact hgrace l
      | assocState i => exact fun a ha => (hassoc i a ha).1
      | receipt i => exact fun a ha => (hassoc i a ha).2
    obtain ⟨u, hu, he⟩ := tickAll_of_survives ⟨hreset, hinterval⟩ htaken hsurvives
    have hmem (x : TimerName) : x ∈ allTimers.reverse := List.mem_reverse.2 (mem_allTimers x)
    have hlineA := hu.line .a
    have hlineB := hu.line .b
    have hattention := hu.attention
    rw [takenBy_of _ (hmem _)] at hlineA hlineB hattention
    refine ⟨u.closeTick, by rw [exec_tick_none, if_pos ((ticks_iff s).2 ⟨hreset, hinterval⟩), he], ?_,
      fun i => ⟨hu.generations i, hu.free i, fun a ha => ?_⟩⟩
    · have hphase := hu.phase
      rw [if_neg (List.ne_nil_of_mem (hmem .holdoff))] at hphase
      change u.lineA = _ at hlineA
      change u.lineB = _ at hlineB
      have hblock {α : Type} (f : State → α) := congrArg f hu.blocks
      refine State.eq_of_blocks (hblock State.resetAsserted) (hblock State.dataOut) rfl
        (hblock State.addressMap) (hblock State.listen) (hblock State.pool) (fun l => ?_) ?_
        (hblock State.controller) (hblock State.mailbox) (hblock State.flags) hattention
        (hblock State.pending)
      · cases l
        · exact hlineA
        · exact hlineB
      · rw [closeTick_timebase, hphase, ← htaken]
    · have hrec := hu.records i a ha
      rwa [takenBy_of _ (hmem _), takenBy_of _ (hmem _)] at hrec

end Sys2Proof.Machine
end

section
/-! Step, device reset, and the reset state's laws (R153, R191, section 1.10). -/

namespace Sys2Proof.Machine

/-! ### Step -/

/-- Settles O1: the definition of a step. -/
theorem stepTakesTheFrontCommand : Obligations.StepTakesTheFrontCommand := by
  intro s c rest h
  rw [step, h]

theorem step_of_empty {s : State} (h : s.pending = []) : step s = .next s.elapse := by rw [step, h]

theorem elapse_of_still {s : State} (h : ¬ s.ticks = true) : s.elapse = s := if_neg h

/-- Reset input, interval and phase, which no expiry changes. -/
def State.clock (s : State) : Bool × Timebase := (s.resetAsserted, s.timebase)

@[simp] theorem clock_endAssoc (c : Claim) (i : Slot) (cause : EndCause) : (c.endAssoc i cause).st.clock = c.st.clock := by
  rw [endAssoc_frame]
  rfl

@[simp] theorem clock_finish (c : Claim) : c.finish.clock = c.st.clock := by simp [State.clock]

@[simp] theorem clock_setLine (s : State) (l : Line) (q : LineRecord) : (s.setLine l q).clock = s.clock := by
  simp [State.clock]

@[simp] theorem clock_setAssoc (s : State) (i : Slot) (a : Assoc) : (s.setAssoc i a).clock = s.clock := rfl

@[simp] theorem clock_raiseLine (s : State) (l : Line) (r : LineReason) : (s.raiseLine l r).clock = s.clock := by
  simp [State.clock]

@[simp] theorem clock_handReply (s : State) (l : Line) (r : Reply) : (s.handReply l r).clock = s.clock := by
  simp [State.clock]

theorem clock_endLine (l : Line) (cause : EndCause) (slots : List Slot) : ∀ c : Claim,
    (Claim.endLine l cause slots c).st.clock = c.st.clock := by
  induction slots with
  | nil => intro c; rfl
  | cons i rest ih =>
    intro c
    rw [Claim.endLine, ih]
    split
    · split <;> simp
    · rfl

theorem clock_goDown (s : State) (l : Line) : (s.goDown l).clock = s.clock := by
  simp [State.goDown, State.loseLine, clock_endLine]

theorem clock_bumpRetry (s : State) (i : Slot) (a : Assoc) (go : Assoc → Assoc) : (s.bumpRetry i a go).clock = s.clock := by
  unfold State.bumpRetry
  dsimp only
  split <;> simp

theorem clock_stateExpires (s : State) (i : Slot) (a : Assoc) : (s.stateExpires i a).clock = s.clock := by
  unfold State.stateExpires
  split
  · exact clock_bumpRetry s i a _
  · simp [State.offerExpires]
  · exact clock_bumpRetry s i a _
  · exact clock_bumpRetry s i a _
  · exact clock_bumpRetry s i a _
  · rfl

theorem clock_expire (s : State) (x : TimerName) : (s.expire x).clock = s.clock := by
  cases x with
  | assocState i =>
    unfold State.expire
    dsimp only
    split
    · rfl
    · exact clock_stateExpires s i _
  | receipt i =>
    unfold State.expire
    dsimp only
    split <;> rfl
  | grace l =>
    unfold State.expire State.graceExpires
    dsimp only
    split
    · exact clock_goDown s l
    · exact clock_setLine s l _
  | holdoff => rfl

theorem clock_setTimer (s : State) (t : Timer) (x : TimerName) : (s.setTimer t x).clock = s.clock := by
  cases x with
  | grace l => exact clock_setLine s l _
  | holdoff => rfl
  | assocState i =>
    unfold State.setTimer
    dsimp only
    split <;> rfl
  | receipt i =>
    unfold State.setTimer
    dsimp only
    split <;> rfl

/-- A tick at a timer leaves the reset input and the interval alone. -/
theorem ticks_tickAt (s : State) (x : TimerName) : (s.tickAt x).ticks = s.ticks := by
  have hticks {t u : State} (h : t.clock = u.clock) : t.ticks = u.ticks := by
    obtain ⟨hreset, hbase⟩ := Prod.mk.injEq .. ▸ h
    rw [State.ticks, State.ticks, hreset, hbase]
  obtain ⟨-, he⟩ | ⟨-, he⟩ := tickAt_cases s x
  · rw [he]
  · rw [he]
    obtain ⟨-, hr⟩ | ⟨n, -, -, ⟨-, hr⟩ | ⟨-, hr⟩⟩ := reach_cases (s.tickNoted x) x
    · rw [hr]
      rfl
    · rw [hr, hticks (clock_setTimer _ _ _)]
      rfl
    · rw [hr, hticks (clock_expire _ _)]
      rfl

theorem ticks_tickAll (s : State) : s.tickAll.ticks = s.ticks := by
  have hfold (xs : List TimerName) : ∀ t : State, (xs.foldl State.tickAt t).ticks = t.ticks := by
    induction xs with
    | nil => exact fun _ => rfl
    | cons x rest ih => exact fun t => (ih _).trans (ticks_tickAt t x)
  rw [State.tickAll, ← hfold allTimers s]
  generalize allTimers.foldl State.tickAt s = t
  rfl

/-- Settles O2: a unit of time, with the tick that is being taken over first. -/
theorem emptyQueueStepIsOneUnit : Obligations.EmptyQueueStepIsOneUnit := by
  intro s hempty
  have hstep := step_of_empty hempty
  refine ⟨fun h => ?_, fun hreset htaken hphase => ?_, fun hreset htaken hinterval hphase => ?_,
    fun hreset htaken hinterval => ?_⟩
  · rw [hstep, elapse_of_still]
    intro ht
    obtain ⟨hr, hi⟩ := (ticks_iff s).1 ht
    exact h.elim (fun h => by rw [h] at hr; cases hr) hi
  · rw [hstep, State.elapse, if_pos ((ticks_iff s).2 ⟨hreset, by omega⟩), finishTick_of_none s htaken]
    exact congrArg Host.Outcome.next (if_neg (by omega))
  · rw [hstep, State.elapse, if_pos ((ticks_iff s).2 ⟨hreset, hinterval⟩), finishTick_of_none s htaken, exec_tick_none,
      if_pos ((ticks_iff s).2 ⟨hreset, hinterval⟩)]
    exact congrArg Host.Outcome.next (if_pos hphase)
  · have hticks := (ticks_iff s).2 ⟨hreset, hinterval⟩
    have hrun : exec (.tick none) s = .next s.tickAll := by rw [exec_tick_none, if_pos hticks]
    have hover : s.finishTick = s.tickAll := by
      rw [State.finishTick, if_pos]
      simpa [hticks] using Option.isSome_iff_ne_none.2 htaken
    have hdone : s.tickAll.timebase.taken = none := rfl
    have hpending : s.tickAll.pending = [] := by rw [commandsLeaveTheQueue _ _ _ hrun, hempty]
    refine ⟨s.tickAll, hrun, hdone, ?_⟩
    rw [hstep, step_of_empty hpending, State.elapse, State.elapse, if_pos hticks, if_pos ((ticks_tickAll s).trans hticks),
      hover, finishTick_of_none _ hdone]

/-! ### Device reset -/

theorem exec_deviceReset {s : State} {e : ResetEdge} (h : e = .release → s.resetAsserted = true) :
    exec (.deviceReset e) s = .next (s.deviceReset (decide (e = .assertion))) := by
  cases e with
  | assertion => rfl
  | release => exact congrArg Host.Outcome.next (if_pos (h rfl))
  | pulse => rfl

theorem map_val_allBuffers : allBuffers.map (·.val) = List.range 128 := by
  rw [show allBuffers = List.finRange 128 from List.ofFn_id 128]
  exact List.map_coe_finRange_eq_range

/-- Settles O4: every block of the state after a device reset. -/
theorem deviceResetGivesTheResetValues : Obligations.DeviceResetGivesTheResetValues := by
  refine ⟨fun s h => congrArg Host.Outcome.next (if_neg (by simp [h])), fun s e h => ?_⟩
  refine ⟨_, exec_deviceReset h, by simp [State.deviceReset],
    fun i => ⟨generation_deviceReset s i _, assocAt_deviceReset s i _⟩,
    rfl, fun n => ?_, fun b => ?_, map_val_allBuffers, fun b k => rfl, fun l => ?_, rfl, rfl, rfl, rfl, rfl, ?_⟩
  · rw [listenAt_deviceReset]
    decide
  · simp [State.bufferStateAt, State.deviceReset, State.reset, Pool.reset]
  · rw [line_deviceReset]
    exact ⟨rfl, rfl, rfl, rfl, rfl, rfl, rfl, rfl⟩
  · refine ⟨?_, ?_, ?_, ?_, ?_, ?_, fun k => ?_, fun k => ?_, ?_, ?_, ?_, ?_, fun l => ⟨?_, ?_, ?_, fun k => ?_⟩⟩
    · exact (by decide : State.reset.readReg .controllerStatus = 0x00000000)
    · exact (by decide : State.reset.readReg .faultFlags = 0x00000000)
    · exact (by decide : State.reset.readReg .tickInterval = 0x00000064)
    · exact (by decide : State.reset.readReg .hostFloor = 0x00000004)
    · change place 0 8 allBuffers.length ||| place 8 8 0 ||| place 16 6 63 = 0x003F0080
      rw [show allBuffers.length = 128 from List.length_ofFn]
      decide
    · exact (by decide : State.reset.readReg .mailboxStatus = 0x0000FF00)
    · exact Vector.getElem_replicate ..
    · exact Vector.getElem_replicate ..
    · exact (by decide : State.reset.readReg .attentionPort = 0x000000FF)
    · exact (by decide : State.reset.readReg .attentionStatus = 0x00000000)
    · exact (by decide : State.reset.readReg .notification = 0x00000100)
    · exact (by decide : State.reset.readReg .windowSelect = 0x00000000)
    all_goals rw [State.readReg, line_deviceReset]
    · rfl
    · cases (s.line l).carrier <;> rfl
    · rfl
    · cases k <;> rfl

/-! ### The reset state -/

section Reset

@[simp] theorem assocAt_reset (i : Slot) : State.reset.assocAt i = none := by
  simp [State.assocAt, State.slotRec, State.reset, SlotRecord.reset]

@[simp] theorem line_reset (l : Line) : State.reset.line l = .reset false := by cases l <;> rfl

@[simp] theorem listenAt_reset (n : ListenNo) : State.reset.listenAt n = .reset := by
  simp [State.listenAt, State.reset]

/-- Settles O6: the laws of an empty table, with all buffers free and both lines DISABLED. -/
theorem resetStateHasTheLaws : Obligations.ResetStateHasTheLaws := by
  have hparams : State.reset.ParamsInRange :=
    ⟨fun i a ha => (by rw [assocAt_reset] at ha; cases ha), fun n => by rw [listenAt_reset]; rfl⟩
  refine ⟨creditBacked_of_empty assocAt_reset rfl, noticesListed_of_empty assocAt_reset (fun l => by rw [line_reset]; rfl) rfl
    fun _ => ⟨rfl, rfl⟩, ⟨fun k i => ?_, List.nodup_nil⟩, admittedCounted_of_empty assocAt_reset fun n => by
      rw [listenAt_reset]; rfl, ⟨fun l => ?_, fun i a ha => ?_, fun _ => rfl⟩,
    (buffersHeld_iff _).2 (buffersCounted_of_empty assocAt_reset rfl (fun b => ?_) fun l => ?_),
    ⟨hparams, ?_, ?_⟩, hparams, rfl⟩
  · exact iff_of_false List.not_mem_nil (not_owns_of_none (assocAt_reset i) k)
  · rw [line_reset]
    exact ⟨⟨Nat.zero_le _, List.nodup_nil⟩, Nat.zero_le _, fun h => absurd rfl h, by simp [LineRecord.reset],
      fun h => by cases h⟩
  · rw [assocAt_reset] at ha
    cases ha
  · simp [State.bufferStateAt, State.reset, Pool.reset]
  · exact inFlight_of_idle (by rw [line_reset]; rfl)
  · intro i a ha
    rw [assocAt_reset] at ha
    cases ha
  · intro i a ha
    rw [assocAt_reset] at ha
    cases ha

end Reset

end Sys2Proof.Machine
end

section
/-! What takes nothing (R28, R191), carrier and enable (R162 to R164), and the controller's requests (R169 to R172). -/

namespace Sys2Proof.Machine

/-- A command's answer with its next state. -/
abbrev nextState (s : State) : Host.Outcome State Fault Refusal := .next s

theorem ticks_of_reset {s : State} (h : s.resetAsserted = true) : ¬ s.ticks = true := fun ht => by
  have hr := ((ticks_iff s).1 ht).1
  rw [h] at hr
  cases hr

theorem hostWrite_of_reset {s : State} (h : s.resetAsserted = true) (word : BitVec 10) (lanes : BitVec 4) (v : Word) :
    s.hostWrite word lanes v = s := by
  simp [State.hostWrite, h]

theorem busRead_of_reset {s : State} (h : s.resetAsserted = true) (word : BitVec 10) (lanes : BitVec 4) :
    s.busRead word lanes = { s with dataOut := 0 } := by
  simp [State.busRead, State.hostRead, h]

theorem tickAt_of_reset {s : State} (h : s.resetAsserted = true) (x : TimerName) : s.tickAt x = s :=
  tickAt_of_closed fun ho => ticks_of_reset h ((tickOpen_iff s x).1 ho).1

theorem expiryAt_of_reset {s : State} (h : s.resetAsserted = true) (x : TimerName) (owner : Bool) : s.expiryAt x owner = s :=
  expiryAt_of_not fun _ ho => absurd ((tickOpen_iff s x).1 ho).1 (ticks_of_reset h)

theorem receive_of_deaf {s : State} {l : Line} (h : s.resetAsserted = true ∨ (s.line l).state ≠ .active) (bits : List Bool) :
    s.receive l bits = s := by
  unfold State.receive
  split
  · rfl
  · rename_i hreset
    have hline : (s.line l).receive bits = s.line l := if_neg (h.resolve_left hreset)
    rw [hline, setLine_line_self]

/-- Settles O5: every access and every expiry asks for the released reset input. -/
theorem resetAndInactiveLinesTakeNothing : Obligations.ResetAndInactiveLinesTakeNothing := by
  refine ⟨fun s h => ?_, fun s l h => ?_⟩
  · have hwrite (word : BitVec 10) (lanes : BitVec 4) (v : Word) := congrArg nextState (hostWrite_of_reset h word lanes v)
    have hread (word : BitVec 10) (lanes : BitVec 4) := congrArg nextState (busRead_of_reset h word lanes)
    have hexpiry (x : TimerName) (owner : Bool) := congrArg nextState (expiryAt_of_reset h x owner)
    refine ⟨fun _ _ _ => hwrite _ _ _, fun _ _ _ => hwrite _ _ _, fun _ => hread _ _, fun _ _ => hread _ _, hwrite _ _ _,
      hwrite _ _ _, fun _ _ => hwrite _ _ _, fun _ => ⟨hwrite _ _ _, hwrite _ _ _⟩,
      fun _ => ⟨hwrite _ _ _, fun _ => hwrite _ _ _, hwrite _ _ _, hwrite _ _ _, hwrite _ _ _⟩, fun which => ?_,
      fun _ => ⟨hexpiry _ _, hexpiry _ _, hexpiry _ _, hexpiry _ _, hexpiry _ _⟩, fun _ => hexpiry _ _, hexpiry _ _, ?_⟩
    · cases which with
      | none => rw [exec_tick_none, if_neg (ticks_of_reset h)]
      | some x => rw [exec_tick_some, tickAt_of_reset h]
    · simp [State.notifyAsserted, h]
  · have hreceive (bits : List Bool) := congrArg nextState (receive_of_deaf h bits)
    exact ⟨fun _ => hreceive _, fun _ => hreceive _, fun _ _ => hreceive _⟩

/-- Settles O43: each event's row. -/
theorem carrierAndEnableMoveTheLine : Obligations.CarrierAndEnableMoveTheLine := by
  intro s l
  refine ⟨fun h => ?_, fun h => congrArg Host.Outcome.next (if_neg h), fun h => ?_, fun h => ?_, fun hreset h => ?_,
    fun hreset h => ?_⟩
  · refine ⟨_, _, congrArg Host.Outcome.next (if_pos h), rfl, ?_⟩
    rw [LineRecord.suspend, dropReception_eq]
    rfl
  · refine congrArg Host.Outcome.next ?_
    obtain h | h := h <;> rw [h] <;> rfl
  · refine congrArg Host.Outcome.next ?_
    obtain h | h := h <;> rw [h]
  · refine congrArg Host.Outcome.next ?_
    rw [hostWrite_lineControl l _ hreset]
    exact if_pos h
  · refine congrArg Host.Outcome.next ?_
    rw [hostWrite_lineControl l _ hreset]
    exact if_neg h

/-- A write of the controller control register (R169 to R171). -/
theorem hostWrite_control {s : State} (h : s.resetAsserted = false) (v : Word) : s.hostWrite 0 allLanes v =
    s.controlRequest (v.getLsbD 0) (v.getLsbD 1) (v.getLsbD 2) := by
  rw [hostWrite_reg h (r := .control) (by decide) allLanes_ne_zero, State.writeReg, mergeLanes_all]

/-- A control write without CLEAR whose START and STOP agree in every byte lane does nothing (R169). -/
theorem hostWrite_control_of_equal {s : State} {v : Word}
    (hclear : ∀ lanes, (mergeLanes 0 v lanes).getLsbD 2 = false)
    (hequal : ∀ lanes, (mergeLanes 0 v lanes).getLsbD 0 = (mergeLanes 0 v lanes).getLsbD 1) (lanes : BitVec 4) :
    s.hostWrite 0 lanes v = s := by
  have hreg : regAt 0 = some .control := by decide
  unfold State.hostWrite
  rw [hreg]
  split
  · rfl
  · dsimp only
    rw [State.writeReg, hclear, hequal]
    cases (mergeLanes 0 v lanes).getLsbD 1 <;> rfl

theorem stopController_of_running {s : State} (h : s.controller = .running) : s.stopController =
    { s with controller := if s.lineA.tx = .idle ∧ s.lineB.tx = .idle then .stopped else .stopping } := by
  rw [State.stopController, if_pos (by simp [State.running, h]), settleStop_eq]
  simp [State.bothIdle]

/-- Settles O45: each request by what it writes to the control register. -/
theorem controllerRequests : Obligations.ControllerRequests := by
  intro s hreset
  have hclear (withStart withStop : Bool) : exec (.clear withStart withStop) s = .next (s.requestClear withStart withStop) := by
    refine congrArg nextState ?_
    rw [hostWrite_control hreset]
    cases withStart <;> cases withStop <;> rfl
  refine ⟨congrArg nextState ?_, fun hrun hidle => congrArg nextState ?_, fun hrun hbusy => congrArg nextState ?_,
    fun hrun => congrArg nextState ?_, fun lanes => ⟨congrArg nextState ?_, congrArg nextState ?_⟩,
    fun withStart withStop h => ?_, fun hstop hlatched => ?_⟩
  · rw [hostWrite_control hreset]
    rfl
  · rw [hostWrite_control hreset]
    exact (stopController_of_running hrun).trans (by rw [if_pos hidle])
  · rw [hostWrite_control hreset]
    exact (stopController_of_running hrun).trans (by rw [if_neg (by rwa [not_and_or])])
  · rw [hostWrite_control hreset]
    have hnot : ¬ s.running = true := by simpa [State.running] using hrun
    exact (show s.stopController = s from if_neg hnot)
  · exact hostWrite_control_of_equal (by decide) (by decide) lanes
  · exact hostWrite_control_of_equal (by decide) (by decide) lanes
  · rw [hclear]
    refine congrArg nextState (if_neg ?_)
    simp only [Bool.and_eq_true, Bool.not_eq_true', decide_eq_true_eq, State.busy]
    rintro ⟨⟨⟨h1, h2⟩, h3⟩, h4⟩
    obtain h | h | h | h := h
    · rw [h1] at h
      cases h
    · rw [h2] at h
      cases h
    · exact h h3
    · exact h (Option.isSome_eq_false_iff.1 h4 |> Option.isNone_iff_eq_none.1)
  · refine ⟨s.clearAll, ?_, fun i => ⟨generation_clearAll s i, assocAt_clearAll s i⟩, listenAt_clearAll s, fun b => ?_,
      map_val_allBuffers, rfl, line_clearAll s, rfl⟩
    · rw [hclear]
      exact congrArg nextState (if_pos (by simp [hstop, State.busy, hlatched]))
    · simp [State.bufferStateAt, State.clearAll, Pool.cleared]

end Sys2Proof.Machine
end

section
/-! Receive dispatch: the tests, the lookup, and the frames whose whole effect is a reply, a change of one record or an end
(R33 to R40, R46 to R48, R51, R57, R61, R73 to R78, R86 to R92, R110 to R119). -/

namespace Sys2Proof.Machine

variable {s : State} {l : Line} {f : Frame} {i : Slot} {a : Assoc}

/-! ### The frame taken off the line's list -/

theorem exec_receiveDispatch (l : Line) (s : State) : exec (.receiveDispatch l) s = execReceiveDispatch l s := rfl

@[simp] theorem assocAt_popArrived (i : Slot) : (s.popArrived l).assocAt i = s.assocAt i := by simp [State.popArrived]
@[simp] theorem slotRec_popArrived (i : Slot) : (s.popArrived l).slotRec i = s.slotRec i := by
  cases l <;> rfl
@[simp] theorem generation_popArrived (i : Slot) : (s.popArrived l).generation i = s.generation i := by
  simp [State.popArrived]
@[simp] theorem addressMap_popArrived : (s.popArrived l).addressMap = s.addressMap := by simp [State.popArrived]
@[simp] theorem lookup_popArrived (k : Key) : (s.popArrived l).lookup k = s.lookup k := by simp [State.lookup]
@[simp] theorem listenAt_popArrived (n : ListenNo) : (s.popArrived l).listenAt n = s.listenAt n := by
  simp [State.popArrived]
@[simp] theorem pool_popArrived : (s.popArrived l).pool = s.pool := by simp [State.popArrived]
@[simp] theorem attention_popArrived : (s.popArrived l).attention = s.attention := by simp [State.popArrived]
@[simp] theorem bufferByte_popArrived (b : BufferNo) (k : Nat) : (s.popArrived l).bufferByte b k = s.bufferByte b k := by
  simp [State.popArrived]
@[simp] theorem bufferStateAt_popArrived (b : BufferNo) : (s.popArrived l).bufferStateAt b = s.bufferStateAt b := by
  simp [State.popArrived]
@[simp] theorem available_popArrived : (s.popArrived l).available = s.available := by simp [State.available]
@[simp] theorem replies_popArrived (m : Line) : ((s.popArrived l).line m).replies = (s.line m).replies := by
  cases l <;> cases m <;> rfl
@[simp] theorem inFlight_popArrived (m : Line) : (s.popArrived l).inFlight m = s.inFlight m := by
  cases l <;> cases m <;> rfl

theorem judge_popArrived (d : Delivered) : (s.popArrived l).judge l d = s.judge l d := by
  cases l <;> rfl

/-- RECEIVE_DISPATCH with a frame waiting: the claim of the oldest, taken off the list. -/
theorem exec_dispatch_of_arrived {d : Delivered} {rest : List Delivered} {t : State} (h : (s.line l).arrived = d :: rest)
    (ht : (s.popArrived l).dispatchFrame l d = some t) : exec (.receiveDispatch l) s = .next t := by
  rw [exec_receiveDispatch, execReceiveDispatch, h]
  simp only [ht]

theorem popArrived_of_arrived {d : Delivered} {rest : List Delivered} (h : (s.line l).arrived = d :: rest) :
    s.popArrived l = s.setLine l { s.line l with arrived := rest } := by
  rw [State.popArrived, h, List.tail_cons]

theorem dispatchFrame_of_counted {d : Delivered} {k : TallyKind} (h : s.judge l d = .counted k) :
    s.dispatchFrame l d = some (s.bumpTally l k) := by rw [State.dispatchFrame, h]

theorem bumpTally_popArrived {d : Delivered} {rest : List Delivered} (h : (s.line l).arrived = d :: rest) (k : TallyKind) :
    (s.popArrived l).bumpTally l k =
      s.setLine l { s.line l with arrived := rest, tallies := (s.line l).tallies.bump k } := by
  rw [popArrived_of_arrived h, State.bumpTally]
  cases l <;> rfl

/-- Settles O22: the four discards of R33 are the four verdicts before `wellFormed`. -/
theorem undispatchedFramesAreCounted : Obligations.UndispatchedFramesAreCounted := by
  intro s l
  refine ⟨fun h => by rw [exec_receiveDispatch, execReceiveDispatch, h], fun d rest h => ?_⟩
  have counted {k : TallyKind} (hj : s.judge l d = .counted k) : exec (.receiveDispatch l) s =
      .next (s.setLine l { s.line l with arrived := rest, tallies := (s.line l).tallies.bump k }) := by
    rw [← judge_popArrived] at hj
    rw [exec_dispatch_of_arrived h (dispatchFrame_of_counted hj), bumpTally_popArrived h]
  refine ⟨fun hstate => ?_, fun hstate hrun => counted ?_, fun hstate hrun hhead => counted ?_,
    fun hstate hrun hhead hparse => counted ?_⟩
  · have hj : (s.popArrived l).judge l d = .lost := by rw [judge_popArrived, State.judge, if_pos hstate]
    rw [exec_dispatch_of_arrived h (by rw [State.dispatchFrame, hj]), popArrived_of_arrived h]
  · simp [State.judge, State.running, hstate, hrun]
  · simp [State.judge, State.running, hstate, hrun, show d.bytes.head? ≠ some 0#8 from hhead]
  · simp [State.judge, State.running, hstate, hrun, hhead, hparse]

/-- A well-formed frame goes to lookup, and its claim ends. -/
theorem exec_dispatch_of_ready (h : s.frameReady l f) {c : Claim}
    (hc : (Claim.begin (s.popArrived l)).dispatch l f = some c) : exec (.receiveDispatch l) s = .next c.finish := by
  obtain ⟨d, rest, harr, hstate, hrun, hhead, hparse⟩ := h
  refine exec_dispatch_of_arrived harr ?_
  have hj : (s.popArrived l).judge l d = .wellFormed f := by
    rw [judge_popArrived]
    simp [State.judge, State.running, hstate, hrun, hhead, hparse]
  rw [State.dispatchFrame, hj]
  simp only [hc, Option.map_some]

/-! ### Lookup (R36) -/

theorem exec_dispatch_of_unowned (h : s.frameReady l f) (hkey : s.lookup (f.key l) = none) :
    exec (.receiveDispatch l) s = .next ((Claim.begin (s.popArrived l)).noAssociation l f).finish := by
  refine exec_dispatch_of_ready h ?_
  have : (Claim.begin (s.popArrived l)).st.lookup (f.key l) = none := by rw [← hkey]; exact lookup_popArrived _
  rw [Frame.key] at this
  rw [Claim.dispatch, this]

theorem dispatch_of_owned (hkey : s.lookup (f.key l) = some i) (ha : s.assocAt i = some a) :
    (Claim.begin (s.popArrived l)).dispatch l f = if a.epoch = f.epoch then
      (Claim.begin (s.popArrived l)).sameEpoch l f i a else some ((Claim.begin (s.popArrived l)).otherEpoch l f i a) := by
  have hkey' : (Claim.begin (s.popArrived l)).st.lookup (f.key l) = some i := by rw [← hkey]; exact lookup_popArrived _
  have ha' : (Claim.begin (s.popArrived l)).st.assocAt i = some a := by rw [← ha]; exact assocAt_popArrived _
  rw [Frame.key] at hkey'
  rw [Claim.dispatch, hkey']
  simp only [ha']

theorem exec_dispatch_of_other (h : s.frameReady l f) (hkey : s.lookup (f.key l) = some i) (ha : s.assocAt i = some a)
    (he : a.epoch ≠ f.epoch) :
    exec (.receiveDispatch l) s = .next ((Claim.begin (s.popArrived l)).otherEpoch l f i a).finish :=
  exec_dispatch_of_ready h (by rw [dispatch_of_owned hkey ha, if_neg he])

theorem exec_dispatch_of_own (h : s.frameFor l f i a) {c : Claim}
    (hc : (Claim.begin (s.popArrived l)).sameEpoch l f i a = some c) :
    exec (.receiveDispatch l) s = .next c.finish := by
  obtain ⟨hready, hkey, ha, he, -⟩ := h
  exact exec_dispatch_of_ready hready (by rw [dispatch_of_owned hkey ha, if_pos he, hc])

theorem finish_update_begin (s : State) (g : State → State) : ((Claim.begin s).update g).finish = g s := rfl

theorem finish_begin (s : State) : (Claim.begin s).finish = s := rfl

theorem finish_reply (s : State) (l : Line) (r : Reply) : ((Claim.begin s).reply l r).finish = s.handReply l r := rfl

/-! ### Replies (R37, R38, R40, R48, R142) -/

/-- The reply to a frame that reaches no association of its epoch, for the kinds that need no listen table (R37, R38). -/
def FrameKind.answer : FrameKind → Option ReplyKind
  | .close => some .closeConfirm
  | .data | .receipt | .probe | .openAccept => some .disown
  | .openRequest | .openRefuse | .closeConfirm | .disown => none

/-- The claim with the answer to such a frame. -/
def Claim.answered (c : Claim) (l : Line) (f : Frame) : Claim :=
  match f.body.kind.answer with
  | some k => c.reply l (f.replyOf k)
  | none => c

theorem noAssociation_of_answered (c : Claim) (l : Line) (h : f.body.kind ≠ .openRequest) :
    c.noAssociation l f = c.answered l f := by
  unfold Claim.noAssociation Claim.answered
  cases hb : f.body with
  | openRequest limit credit => simp [hb, FrameBody.kind] at h
  | _ => rfl

theorem otherEpoch_of_answered (c : Claim) (l : Line) (i : Slot) (a : Assoc) (h : f.body.kind ≠ .openRequest) :
    c.otherEpoch l f i a = c.answered l f := by
  unfold Claim.otherEpoch Claim.answered
  cases hb : f.body with
  | openRequest limit credit => simp [hb, FrameBody.kind] at h
  | _ => rfl

theorem exec_dispatch_of_answered (h : s.frameReady l f) (hkind : f.body.kind ≠ .openRequest)
    (howner : s.lookup (f.key l) = none ∨ ∃ i a, s.lookup (f.key l) = some i ∧ s.assocAt i = some a ∧ a.epoch ≠ f.epoch) :
    exec (.receiveDispatch l) s = .next ((Claim.begin (s.popArrived l)).answered l f).finish := by
  rcases howner with hnone | ⟨i, a, hkey, ha, he⟩
  · rw [exec_dispatch_of_unowned h hnone, noAssociation_of_answered _ _ hkind]
  · rw [exec_dispatch_of_other h hkey ha he, otherEpoch_of_answered _ _ _ _ hkind]

theorem body_of_kind_openRequest (h : f.body.kind = .openRequest) : ∃ limit credit, f.body = .openRequest limit credit := by
  cases hb : f.body with
  | openRequest limit credit => exact ⟨_, _, rfl⟩
  | _ => simp [hb, FrameBody.kind] at h

/-- Settles O23: the answer is by kind, and the crossing rule comes before the epoch. -/
theorem unownedFramesAreAnswered : Obligations.UnownedFramesAreAnswered := by
  intro s l f hready
  refine ⟨fun howner => ?_, fun i a hkey ha hst hkind => ?_⟩
  · have answer (hkind : f.body.kind ≠ .openRequest) := exec_dispatch_of_answered hready hkind howner
    unfold Claim.answered at answer
    refine ⟨fun hk => ?_, fun hk => ?_, fun hk => ?_⟩
    · rw [answer (by rcases hk with hk | hk | hk | hk <;> simp [hk])]
      rcases hk with hk | hk | hk | hk <;> rw [hk] <;> rfl
    · rw [answer (by simp [hk]), hk]
      rfl
    · rw [answer (by rcases hk with hk | hk | hk <;> simp [hk])]
      rcases hk with hk | hk | hk <;> rw [hk] <;> rfl
  · obtain ⟨limit, credit, hb⟩ := body_of_kind_openRequest hkind
    by_cases he : a.epoch = f.epoch
    · exact exec_dispatch_of_own (c := (Claim.begin (s.popArrived l)).crossing l f)
        ⟨hready, hkey, ha, he, by rw [hst]; rfl⟩ (by rw [Claim.sameEpoch, hb, hst])
    · rw [exec_dispatch_of_other hready hkey ha he, Claim.otherEpoch, hb]
      simp only [hst, if_true]
      rfl

/-- Settles O24: the three branches of a hand-over. -/
theorem replyQueueTakesReplies : Obligations.ReplyQueueTakesReplies := by
  intro s l r
  unfold State.handReply
  refine ⟨fun hmem => ?_, fun hmem hfull => ?_, fun hmem hroom => ?_⟩
  · rw [if_pos (List.contains_iff_mem.2 hmem)]
  · rw [if_neg (by rwa [List.contains_iff_mem]), if_pos (show Config.replyQueueDepth ≤ _ from hfull)]
    rfl
  · rw [if_neg (by rwa [List.contains_iff_mem]), if_neg (show ¬ Config.replyQueueDepth ≤ _ from Nat.not_le.2 hroom)]

/-! ### Listen admission's refusals (R51) -/

theorem firstMatch_eq_none (h : ∀ n, (s.listenAt n).matchesRequest l f = false) : s.firstMatch l f = none :=
  List.find?_eq_none.2 fun n _ => by simp [h n]

theorem firstMatch_eq_some {n : ListenNo} (h : (s.listenAt n).matchesRequest l f = true)
    (hfirst : ∀ m, m < n → (s.listenAt m).matchesRequest l f = false) : s.firstMatch l f = some n := by
  have hsorted : allListen.Pairwise (· < ·) := by decide
  have hmem : n ∈ allListen := by fin_cases n <;> decide
  obtain ⟨before, rest, heq⟩ := List.append_of_mem hmem
  refine List.find?_eq_some_iff_append.2 ⟨h, before, rest, heq, fun m hm => ?_⟩
  rw [heq, List.pairwise_append] at hsorted
  simp [hfirst m (hsorted.2.2 m hm n List.mem_cons_self)]

theorem freeSlot_eq_none (h : ∀ i, s.assocAt i ≠ none) : s.freeSlot = none :=
  List.find?_eq_none.2 fun i _ => by simpa [← Option.ne_none_iff_isSome] using h i

theorem freeSlot_of_lowestFree (h : s.lowestFree i) : s.freeSlot = some i := by
  obtain ⟨hfree, hlow⟩ := h
  obtain ⟨before, rest, heq⟩ := List.append_of_mem (mem_allSlots i)
  refine List.find?_eq_some_iff_append.2 ⟨by simp [hfree], before, rest, heq, fun j hj => ?_⟩
  have hsorted : allSlots.Pairwise (· < ·) := List.sortedLT_finRange 64 |>.pairwise
  rw [heq, List.pairwise_append] at hsorted
  have := hlow j (hsorted.2.2 j hj i List.mem_cons_self)
  simpa [← Option.ne_none_iff_isSome] using this

theorem listenAdmission_of_noMatch {c : Claim} (h : c.st.firstMatch l f = none) (limit credit : Nat) :
    c.listenAdmission l f limit credit = c.reply l (f.replyOf (.openRefuse .noListener)) := by
  rw [Claim.listenAdmission, h]

theorem listenAdmission_of_full {c : Claim} {n : ListenNo} (h : c.st.firstMatch l f = some n)
    (hfull : (c.st.listenAt n).admissionLimit ≤ (c.st.listenAt n).admitted) (limit credit : Nat) :
    c.listenAdmission l f limit credit = c.reply l (f.replyOf (.openRefuse .admissionFull)) := by
  rw [Claim.listenAdmission, h]
  exact if_pos hfull

theorem listenAdmission_of_noSlot {c : Claim} {n : ListenNo} (h : c.st.firstMatch l f = some n)
    (hroom : (c.st.listenAt n).admitted < (c.st.listenAt n).admissionLimit) (hslot : c.st.freeSlot = none)
    (limit credit : Nat) :
    c.listenAdmission l f limit credit = c.reply l (f.replyOf (.openRefuse .tableFull)) := by
  rw [Claim.listenAdmission, h]
  simp only [hslot]
  exact if_neg (Nat.not_le.2 hroom)

theorem listenAdmission_of_slot {c : Claim} {n : ListenNo} (h : c.st.firstMatch l f = some n)
    (hroom : (c.st.listenAt n).admitted < (c.st.listenAt n).admissionLimit) (hslot : c.st.freeSlot = some i)
    (limit credit : Nat) : c.listenAdmission l f limit credit = c.admitThrough l f limit credit n i := by
  rw [Claim.listenAdmission, h]
  simp only [hslot]
  exact if_neg (Nat.not_le.2 hroom)

theorem exec_dispatch_of_request (h : s.frameReady l f) {limit credit : Nat} (hbody : f.body = .openRequest limit credit)
    (hkey : s.lookup (f.key l) = none) :
    exec (.receiveDispatch l) s = .next ((Claim.begin (s.popArrived l)).listenAdmission l f limit credit).finish := by
  rw [exec_dispatch_of_unowned h hkey, Claim.noAssociation, hbody]

theorem firstMatch_arrived (s : State) (l : Line) (f : Frame) :
    (Claim.begin (s.popArrived l)).st.firstMatch l f = s.firstMatch l f := by simp [State.firstMatch, Claim.begin]

theorem freeSlot_arrived (s : State) (l : Line) : (Claim.begin (s.popArrived l)).st.freeSlot = s.freeSlot := by
  simp [State.freeSlot, Claim.begin]

theorem listenAt_arrived (s : State) (l : Line) (n : ListenNo) :
    (Claim.begin (s.popArrived l)).st.listenAt n = s.listenAt n := listenAt_popArrived n

/-- Settles O26: the three refusals, in the order of R51. -/
theorem listenAdmissionRefuses : Obligations.ListenAdmissionRefuses := by
  intro s l f hready hkind hkey
  obtain ⟨limit, credit, hb⟩ := body_of_kind_openRequest hkind
  rw [exec_dispatch_of_request hready hb hkey]
  refine ⟨fun hno => ?_, fun n hn hfirst => ?_⟩
  · rw [listenAdmission_of_noMatch (by rw [firstMatch_arrived, firstMatch_eq_none hno]), finish_reply]
    rfl
  · have hmatch : (Claim.begin (s.popArrived l)).st.firstMatch l f = some n := by
      rw [firstMatch_arrived, firstMatch_eq_some hn hfirst]
    refine ⟨fun hfull => ?_, fun hroom hslots => ?_⟩
    · rw [listenAdmission_of_full hmatch (by rwa [listenAt_arrived]), finish_reply]
      rfl
    · rw [listenAdmission_of_noSlot hmatch (by rwa [listenAt_arrived]) (by rw [freeSlot_arrived, freeSlot_eq_none hslots]),
        finish_reply]
      rfl

end Sys2Proof.Machine
end

section
/-! The frames of an association's own epoch (R39, and the table of 2.8), but for those that store a message or move positions. -/

namespace Sys2Proof.Machine

variable {s : State} {l : Line} {f : Frame} {i : Slot} {a : Assoc}

/-! ### What each kind of frame does, by state -/

theorem receives_iff (st : AssocState) : st.receives = true ↔ st = .opened ∨ st = .draining ∨ st = .closing := by
  cases st <;> simp [AssocState.receives]

section SameEpoch

variable (c : Claim) (l i)

theorem sameEpoch_data {tag : Tag} {payload : List Byte} (hb : f.body = .data tag payload) (hr : a.state.receives = true) :
    c.sameEpoch l f i a = c.dataArrival i a tag payload := by
  rcases (receives_iff _).1 hr with h | h | h <;> rw [Claim.sameEpoch, hb, h]

theorem sameEpoch_close {tag : Tag} (hb : f.body = .close tag) (hr : a.state.receives = true) :
    c.sameEpoch l f i a = some (c.closeArrival i a tag) := by
  rcases (receives_iff _).1 hr with h | h | h <;> rw [Claim.sameEpoch, hb, h]

theorem sameEpoch_probe (hb : f.body = .probe) (hr : a.state.receives = true) :
    c.sameEpoch l f i a = some (c.update fun s => s.setAssoc i (a.owe .receipt)) := by
  rcases (receives_iff _).1 hr with h | h | h <;> rw [Claim.sameEpoch, hb, h]

theorem sameEpoch_request {limit credit : Nat} (hb : f.body = .openRequest limit credit) (hr : a.state.receives = true) :
    c.sameEpoch l f i a = some (c.update fun s => s.setAssoc i a.duplicateOpen) := by
  rcases (receives_iff _).1 hr with h | h | h <;> rw [Claim.sameEpoch, hb, h]

theorem sameEpoch_receipt {next : Tag} {credit : Nat} (hb : f.body = .receipt next credit)
    (hs : a.state = .opened ∨ a.state = .draining) : c.sameEpoch l f i a = some (c.receiptSending i a next credit) := by
  rcases hs with h | h <;> rw [Claim.sameEpoch, hb, h]

theorem sameEpoch_disown (hb : f.body = .disown) : c.sameEpoch l f i a = some (c.endAssoc i .disowned) := by
  rw [Claim.sameEpoch, hb]

/-- The pairs of state and kind that R39 and R57 discard. -/
def AssocState.ignores (st : AssocState) (k : FrameKind) : Prop :=
  (st = .opening ∧ k ∈ [FrameKind.data, .receipt, .probe, .close, .closeConfirm]) ∨
  (st = .offered ∧ k ∈ [FrameKind.openRequest, .openAccept, .openRefuse, .data, .receipt, .probe, .close, .closeConfirm]) ∨
  (st.receives = true ∧ k ∈ [FrameKind.openAccept, .openRefuse]) ∨
  ((st = .opened ∨ st = .draining) ∧ k = .closeConfirm)

theorem sameEpoch_ignored (h : a.state.ignores f.body.kind) : c.sameEpoch l f i a = some c := by
  unfold AssocState.ignores at h
  unfold Claim.sameEpoch
  rcases h with ⟨hst, hk⟩ | ⟨hst, hk⟩ | ⟨hst, hk⟩ | ⟨hst, hk⟩
  · cases hb : f.body <;> simp_all [FrameBody.kind]
  · cases hb : f.body <;> simp_all [FrameBody.kind]
  · rcases (receives_iff _).1 hst with h | h | h <;> cases hb : f.body <;> simp_all [FrameBody.kind]
  · rcases hst with h | h <;> cases hb : f.body <;> simp_all [FrameBody.kind]

end SameEpoch

theorem body_of_kind_probe (h : f.body.kind = .probe) : f.body = .probe := by
  cases hb : f.body with
  | probe => rfl
  | _ => simp [hb, FrameBody.kind] at h

theorem body_of_kind_disown (h : f.body.kind = .disown) : f.body = .disown := by
  cases hb : f.body with
  | disown => rfl
  | _ => simp [hb, FrameBody.kind] at h

theorem body_of_kind_closeConfirm (h : f.body.kind = .closeConfirm) : f.body = .closeConfirm := by
  cases hb : f.body with
  | closeConfirm => rfl
  | _ => simp [hb, FrameBody.kind] at h

/-! ### The records they leave -/

theorem owe_receipt (a : Assoc) : a.owe .receipt = { a with pendingControl := { a.pendingControl with receipt := true } } := rfl

theorem oweIf_receipt (a : Assoc) (b : Bool) : a.oweIf b .receipt =
    { a with pendingControl := { a.pendingControl with receipt := a.pendingControl.receipt || b } } := by
  cases b <;> simp [Assoc.oweIf, Assoc.owe, ControlSet.add, ControlSet.put]

theorem duplicateOpen_eq (a : Assoc) : a.duplicateOpen = { a with pendingControl := { a.pendingControl with
    openAccept := true, receipt := a.pendingControl.receipt || decide (a.expected ≠ 0) } } := oweIf_receipt _ _

theorem beyondAdvertised_eq (a : Assoc) : a.beyondAdvertised =
    decide (1 ≤ tagDistance a.advertised (a.expected + BitVec.ofNat 8 a.grant) ∧
      tagDistance a.advertised (a.expected + BitVec.ofNat 8 a.grant) ≤ 127) := by
  rw [Bool.decide_and]
  rfl

theorem accepted_eq (a : Assoc) (limit credit : Nat) : a.accepted limit credit = { a with
    state := .opened, outboundLimit := some limit, peerLimit := BitVec.ofNat 8 credit, sendBase := 0, nextToSend := 0,
    sentMark := 0, submitTag := 0, retryCount := 0, stateTimer := .stopped,
    pendingControl := { a.pendingControl with
      openRequest := false,
      receipt := a.pendingControl.receipt ||
        decide (1 ≤ tagDistance a.advertised (a.expected + BitVec.ofNat 8 a.grant) ∧
          tagDistance a.advertised (a.expected + BitVec.ofNat 8 a.grant) ≤ 127) } } := by
  rw [Assoc.accepted, oweIf_receipt, beyondAdvertised_eq]
  rfl

theorem settle_false_eq (a : Assoc) : a.settle false = { a with
    retryCount := if tagDistance a.sendBase a.nextToSend = 0 then 0 else a.retryCount,
    stateTimer := if a.NeedsTimer then a.stateTimer else .stopped } := by
  simp only [Assoc.settle, timerNeeded_iff]
  rfl

/-! ### Obligations -/

/-- Settles O29: the two answers of the station in OPENING. -/
theorem stationAnswersOpenOrRefuse : Obligations.StationAnswersOpenOrRefuse := by
  intro s l f i a h hst
  refine ⟨fun limit credit hb => ?_, fun reason hb => ?_⟩
  · rw [exec_dispatch_of_own h (by rw [Claim.sameEpoch, hb, hst]), finish_update_begin, accepted_eq]
  · exact exec_dispatch_of_own h (by rw [Claim.sameEpoch, hb, hst])

/-- Settles O32: the size first, then the class of the tag. -/
theorem otherDataOwesReceiptOrEnds : Obligations.OtherDataOwesReceiptOrEnds := by
  intro s l f i a tag payload h hb hr
  have arrival := sameEpoch_data l i (Claim.begin (s.popArrived l)) hb hr
  refine ⟨fun hsize => ?_, fun hsize hclass => ?_, fun hsize hclass => ?_⟩
  · exact exec_dispatch_of_own h (by rw [arrival, Claim.dataArrival, if_pos hsize])
  · have hcl : dataClass (tagDistance a.expected tag) a.grant = .outOfOrder ∨
        dataClass (tagDistance a.expected tag) a.grant = .duplicate := by
      unfold dataClass tagDistance
      split_ifs <;> simp <;> omega
    refine exec_dispatch_of_own h (c := (Claim.begin (s.popArrived l)).update fun s => s.setAssoc i (a.owe .receipt)) ?_
    rw [arrival, Claim.dataArrival, if_neg (Nat.not_lt.2 hsize)]
    rcases hcl with hcl | hcl <;> rw [hcl]
  · have hcl : dataClass (tagDistance a.expected tag) a.grant = .beyondCredit := by
      unfold dataClass tagDistance
      rw [if_neg (by omega), if_neg (by omega), if_neg (by omega)]
    exact exec_dispatch_of_own h (by rw [arrival, Claim.dataArrival, if_neg (Nat.not_lt.2 hsize), hcl])

/-- Settles O34: by the distance of the RECEIPT's tag from the send base. -/
theorem otherReceiptsEndOrAreIgnored : Obligations.OtherReceiptsEndOrAreIgnored := by
  intro s l f i a next credit h hb
  refine ⟨fun hs => ?_, fun hs => ?_⟩
  · have arrival := sameEpoch_receipt l i (Claim.begin (s.popArrived l)) hb hs
    refine ⟨fun hbeyond hnear => ?_, fun hbeyond hold => ?_⟩
    · exact exec_dispatch_of_own h
        (by rw [arrival, Claim.receiptSending, if_neg (Nat.not_le.2 hbeyond), if_pos hnear])
    · rw [exec_dispatch_of_own h (by rw [arrival, Claim.receiptSending, if_neg (Nat.not_le.2 hbeyond),
        if_neg (by omega)]), finish_update_begin, settle_false_eq]
  · have arrival : (Claim.begin (s.popArrived l)).sameEpoch l f i a =
        some ((Claim.begin (s.popArrived l)).receiptClosing i a next credit) := by rw [Claim.sameEpoch, hb, hs]
    refine ⟨fun hnext => ?_, fun hbeyond hnear => ?_, fun hold => ?_⟩
    · rw [exec_dispatch_of_own h (by rw [arrival, Claim.receiptClosing, if_pos (by simp [hnext])]), finish_update_begin]
      rfl
    · exact exec_dispatch_of_own h (by rw [arrival, Claim.receiptClosing, if_neg (by omega), if_pos hnear])
    · exact exec_dispatch_of_own h (by rw [arrival, Claim.receiptClosing, if_neg (by omega), if_neg (by omega)])

/-- Settles O35: the remaining kinds, by state. -/
theorem otherFramesEndOweOrDoNothing : Obligations.OtherFramesEndOweOrDoNothing := by
  intro s l f i a h
  refine ⟨fun finalTag hb hr => ⟨fun htag => ?_, fun htag => ?_⟩, fun hk hst => ?_, fun hk => ?_, fun hk hr => ?_,
    fun hk hr => ?_, fun hignored => ?_⟩
  · exact exec_dispatch_of_own h (by rw [sameEpoch_close _ _ _ hb hr, Claim.closeArrival, if_neg htag])
  · exact exec_dispatch_of_own h (by rw [sameEpoch_close _ _ _ hb hr, Claim.closeArrival, if_pos htag]; rfl)
  · exact exec_dispatch_of_own h (by rw [Claim.sameEpoch, body_of_kind_closeConfirm hk, hst])
  · exact exec_dispatch_of_own h (sameEpoch_disown _ _ _ (body_of_kind_disown hk))
  · rw [exec_dispatch_of_own h (sameEpoch_probe _ _ _ (body_of_kind_probe hk) hr), finish_update_begin, owe_receipt]
  · obtain ⟨limit, credit, hb⟩ := body_of_kind_openRequest hk
    rw [exec_dispatch_of_own h (sameEpoch_request _ _ _ hb hr), finish_update_begin, duplicateOpen_eq]
  · rw [exec_dispatch_of_own h (sameEpoch_ignored _ _ _ hignored), finish_begin]

end Sys2Proof.Machine
end

section
/-! DATA that is stored and RECEIPT that moves positions (R73 to R77, R88, R89). -/

namespace Sys2Proof.Machine

/-! ### A reason raised on a condition -/

/-- A reason raised where a condition holds. -/
def State.raiseSlotIf (s : State) (q : Bool) (i : Slot) (r : SlotReason) : State := if q then s.raiseSlot i r else s

section RaiseIf

variable {s : State} {i : Slot} {a : Assoc} (q : Bool) (r : SlotReason)

theorem assocAt_raiseSlotIf_self (h : s.assocAt i = some a) : (s.raiseSlotIf q i r).assocAt i =
    some { a with reasons := if q then a.reasons.raise r else a.reasons } := by
  cases q
  · exact h
  · exact assocAt_raiseSlot_self s h r

theorem slotRec_raiseSlotIf_of_ne {j : Slot} (h : j ≠ i) : (s.raiseSlotIf q i r).slotRec j = s.slotRec j := by
  cases q
  · rfl
  · exact slotRec_raiseSlot_of_ne s h r

theorem attention_raiseSlotIf (h : s.assocAt i = some a) : (s.raiseSlotIf q i r).attention =
    if q = true ∧ a.reasons = .empty then s.attention.join (.slot i) else s.attention := by
  cases q
  · rfl
  · simpa [State.raiseSlotIf] using attention_raiseSlot h r

@[simp] theorem generation_raiseSlotIf (j : Slot) : (s.raiseSlotIf q i r).generation j = s.generation j := by
  cases q <;> simp [State.raiseSlotIf]

@[simp] theorem pool_raiseSlotIf : (s.raiseSlotIf q i r).pool = s.pool := by
  cases q <;> simp [State.raiseSlotIf]

@[simp] theorem addressMap_raiseSlotIf : (s.raiseSlotIf q i r).addressMap = s.addressMap := by
  cases q <;> simp [State.raiseSlotIf]

@[simp] theorem line_raiseSlotIf (m : Line) : (s.raiseSlotIf q i r).line m = s.line m := by
  cases q <;> simp [State.raiseSlotIf]

theorem raiseSlot_frame (s : State) (i : Slot) (r : SlotReason) : s.raiseSlot i r =
    { s with table := (s.raiseSlot i r).table, attention := (s.raiseSlot i r).attention } := by
  unfold State.raiseSlot
  split
  · rfl
  · dsimp only
    split <;> rfl

theorem raiseSlotIf_frame (s : State) (i : Slot) : s.raiseSlotIf q i r =
    { s with table := (s.raiseSlotIf q i r).table, attention := (s.raiseSlotIf q i r).attention } := by
  cases q
  · rfl
  · exact raiseSlot_frame s i r

end RaiseIf

/-! ### DATA of the expected tag (R88, R89) -/

section Accept

variable {s : State} {l : Line} {f : Frame} {i : Slot} {a : Assoc} {b : BufferNo} {rest : List BufferNo}

theorem acceptedData_eq (a : Assoc) (b : BufferNo) (n : Nat) : a.acceptedData b n = { a with
    inboundQueue := a.inboundQueue ++ [{ buffer := b, length := n }], expected := a.expected + 1, grant := a.grant - 1,
    pendingControl := { a.pendingControl with receipt := a.pendingControl.receipt || decide (a.params.receiptDelay = 0) },
    receiptTimer := if a.params.receiptDelay ≠ 0 ∧ a.receiptTimer = .stopped then .counting a.params.receiptDelay
      else a.receiptTimer } := by
  unfold Assoc.acceptedData
  by_cases hd : a.params.receiptDelay = 0
  · simp [hd, Assoc.owe, ControlSet.add, ControlSet.put]
  · by_cases ht : a.receiptTimer = .stopped <;> simp [hd, ht, Timer.arm]

/-- The pool after an acceptance into the head of the free list (R88). -/
def Pool.stored (p : Pool) (b : BufferNo) (rest : List BufferNo) (payload : List Byte) : Pool :=
  { p.setState b .inbound with freeList := rest, reserved := p.reserved - 1,
                               memory := Memory.writeBytes p.memory (Memory.cell b 0) payload }

theorem acceptData_of_free {c : Claim} (h : c.st.pool.freeList = b :: rest) (payload : List Byte) :
    c.acceptData i a payload = some (c.update fun s =>
      ((s.setPool (c.st.pool.stored b rest payload)).setAssoc i (a.acceptedData b payload.length)).raiseSlotIf
        a.inboundQueue.isEmpty i .inbound) := by
  rw [Claim.acceptData, h]
  cases a.inboundQueue.isEmpty <;> rfl

theorem dataClass_expected {g : Nat} (hg : 0 < g) : dataClass 0 g = .expected := by simp [dataClass, hg]

theorem bufferState_stored (p : Pool) (payload : List Byte) (x : BufferNo) :
    (p.stored b rest payload).bufferState[x] = if x = b then .inbound else p.bufferState[x] :=
  setState_get p b x .inbound

theorem read_stored {p : Pool} {payload : List Byte} (hwf : Memory.wf p.memory = true) (hlen : payload.length ≤ 240)
    (x : BufferNo) {k : Nat} (hk : k < 240) : Memory.read (p.stored b rest payload).memory (Memory.cell x k) =
      if x = b ∧ k < payload.length then payload.getD k 0 else Memory.read p.memory (Memory.cell x k) := by
  have hroom : Memory.cell b 0 + payload.length ≤ Memory.size := by
    simp only [Memory.cell, Memory.size, Config.bufferBytes]
    have := b.isLt
    omega
  have hin : Memory.cell b 0 ≤ Memory.cell x k ∧ Memory.cell x k < Memory.cell b 0 + payload.length ↔
      x = b ∧ k < payload.length := by
    simp only [Memory.cell, Config.bufferBytes, Fin.ext_iff]
    omega
  rw [Pool.stored, read_writeBytes payload hwf hroom]
  by_cases hx : x = b ∧ k < payload.length
  · rw [if_pos (hin.2 hx), if_pos hx, hx.1]
    simp [Memory.cell]
  · rw [if_neg (hin.not.2 hx), if_neg hx]

/-- The state after an acceptance (R88, R89). -/
def State.stored (s : State) (i : Slot) (a : Assoc) (b : BufferNo) (rest : List BufferNo) (payload : List Byte) : State :=
  ((s.setPool (s.pool.stored b rest payload)).setAssoc i (a.acceptedData b payload.length)).raiseSlotIf
    a.inboundQueue.isEmpty i .inbound

theorem exec_dispatch_of_expected {payload : List Byte} (h : s.frameFor l f i a) (hb : f.body = .data a.expected payload)
    (hr : a.state.receives = true) (hg : 0 < a.grant) (hle : payload.length ≤ a.params.inboundLimit)
    (hfree : s.pool.freeList = b :: rest) :
    exec (.receiveDispatch l) s = .next ((s.popArrived l).stored i a b rest payload) := by
  have hfree' : (Claim.begin (s.popArrived l)).st.pool.freeList = b :: rest := by
    rw [← hfree]
    exact congrArg Pool.freeList pool_popArrived
  rw [exec_dispatch_of_own h (c := (Claim.begin (s.popArrived l)).update _)
    (by rw [sameEpoch_data _ _ _ hb hr, Claim.dataArrival, if_neg (Nat.not_lt.2 hle),
          show tagDistance a.expected a.expected = 0 by simp, dataClass_expected hg]
        exact acceptData_of_free hfree' payload), finish_update_begin]
  rfl

/-- Settles O31: the buffer at the head of the free list takes the message. -/
theorem expectedDataIsAccepted : Obligations.ExpectedDataIsAccepted := by
  intro s l f i a payload b rest h hb hr hg hle hlen hfree hwf
  have hassoc : (((s.popArrived l).setPool ((s.popArrived l).pool.stored b rest payload)).setAssoc i
      (a.acceptedData b payload.length)).assocAt i = some (a.acceptedData b payload.length) := assocAt_setAssoc_self _ _ _
  have hpool : ((s.popArrived l).stored i a b rest payload).pool = s.pool.stored b rest payload := by simp [State.stored]
  refine ⟨_, exec_dispatch_of_expected h hb hr hg hle hfree, by rw [hpool]; rfl, by rw [hpool]; rfl, ?_, fun x hx => ?_,
    fun k hk => ?_, fun x k hk hx => ?_, ?_, by simp [State.stored], fun j hj => ?_, by simp [State.stored], ?_,
    fun m => by simp [State.stored]⟩
  · rw [State.bufferStateAt, hpool, bufferState_stored, if_pos rfl]
  · rw [State.bufferStateAt, hpool, bufferState_stored, if_neg hx]
    rfl
  · rw [State.bufferByte, hpool, read_stored hwf hlen b (by omega), if_pos ⟨rfl, hk⟩]
  · rw [State.bufferByte, hpool, read_stored hwf hlen x hk,
      if_neg fun ⟨hxb, hlt⟩ => hx.elim (· hxb) (Nat.not_le.2 hlt)]
    rfl
  · rw [State.stored, assocAt_raiseSlotIf_self _ _ hassoc, acceptedData_eq]
    cases a.inboundQueue.isEmpty <;> simp [SlotReasons.raise]
  · rw [State.stored, slotRec_raiseSlotIf_of_ne _ _ hj, slotRec_setAssoc_of_ne _ hj]
    simp
  · rw [State.stored, attention_raiseSlotIf _ _ hassoc, acceptedData_eq]
    simp [SlotReasons.empty]

end Accept

/-! ### RECEIPT in OPEN and DRAINING (R73 to R77) -/

section Receipt

variable {s : State} {l : Line} {f : Frame} {i : Slot} {a : Assoc}

/-- The queue holds entries and the RECEIPT removes the last of them (R77). -/
def Assoc.drains (a : Assoc) (next : Tag) : Bool :=
  !a.sendQueue.isEmpty && (a.sendQueue.drop (tagDistance a.sendBase next)).isEmpty

theorem drains_eq (a : Assoc) (next : Tag) : a.drains next =
    decide (a.sendQueue ≠ [] ∧ a.sendQueue.drop (tagDistance a.sendBase next) = []) := by
  rw [Bool.eq_iff_iff, Assoc.drains]
  simp [List.isEmpty_iff]

/-- A queue that drains has lost an entry. -/
theorem base_moves_of_drains {next : Tag} (h : a.drains next = true) : next ≠ a.sendBase := by
  rintro rfl
  simp [Assoc.drains] at h

/-- Retry count and timer after a RECEIPT, by whether it moved the base (R76). -/
theorem settle_eq (a : Assoc) (moved : Bool) : a.settle moved = { a with
    retryCount := if moved = true ∨ a.unreceipted = 0 then 0 else a.retryCount,
    stateTimer := if ¬ a.NeedsTimer then .stopped else if moved then .counting a.params.resendPeriod else a.stateTimer } := by
  have hneeds := timerNeeded_iff a
  by_cases hn : a.NeedsTimer
  · rw [Assoc.settle, hneeds.2 hn]
    cases moved <;> simp [hn, Timer.arm]
  · rw [Assoc.settle, Bool.eq_false_iff.2 (hneeds.not.2 hn)]
    cases moved <;> simp [hn]

section Advance

variable (a : Assoc) (next : Tag) (credit : Nat)

@[simp] theorem advance_state : (a.advance next credit).state = a.state := rfl
@[simp] theorem advance_retryCount : (a.advance next credit).retryCount = a.retryCount := rfl
@[simp] theorem advance_pendingControl : (a.advance next credit).pendingControl = a.pendingControl := rfl
@[simp] theorem advance_stateTimer : (a.advance next credit).stateTimer = a.stateTimer := rfl
@[simp] theorem advance_params : (a.advance next credit).params = a.params := rfl

end Advance

/-- The record after a RECEIPT in range, field by field (R74 to R77). -/
theorem receipted_eq (a : Assoc) (next : Tag) (credit : Nat) : a.receipted next credit =
    { a.advance next credit with
      retryCount := if next ≠ a.sendBase ∨ (a.advance next credit).unreceipted = 0 then 0 else a.retryCount,
      state := if a.drains next = true ∧ a.state = .draining then .closing else a.state,
      pendingControl := { a.pendingControl with
        close := a.pendingControl.close || (a.drains next && decide (a.state = .draining)) },
      stateTimer := if (a.drains next = true ∧ a.state = .draining) ∨ ¬ (a.advance next credit).NeedsTimer then .stopped
        else if next ≠ a.sendBase then .counting a.params.resendPeriod else a.stateTimer } := by
  have hmoved : decide (tagDistance a.sendBase next ≠ 0) = decide (next ≠ a.sendBase) := by
    simp [tagDistance_eq_zero_iff]
  have hqueue : ((a.advance next credit).settle (decide (next ≠ a.sendBase))).sendQueue =
      a.sendQueue.drop (tagDistance a.sendBase next) := by rw [settle_eq]; rfl
  rw [Assoc.receipted, hmoved]
  dsimp only
  rw [hqueue, Bool.and_assoc, show (!a.sendQueue.isEmpty && (a.sendQueue.drop (tagDistance a.sendBase next)).isEmpty) =
    a.drains next from rfl, settle_eq]
  by_cases hd : a.drains next = true
  · have hne := base_moves_of_drains hd
    by_cases hst : a.state = .draining
    · simp [hd, hst, hne, Assoc.toClosing, ControlSet.add, ControlSet.put]
    · simp [hd, hst, hne]
  · simp [hd]

/-- The claim before its pass: buffers given back, the record moved, DRAINED raised (R74, R77). -/
def Claim.receipted (c : Claim) (i : Slot) (a : Assoc) (next : Tag) (credit : Nat) : Claim :=
  (Claim.releaseAll a.key.line (a.sendQueue.take (tagDistance a.sendBase next)) c).update fun s =>
    (s.setAssoc i (a.receipted next credit)).raiseSlotIf (a.drains next) i .drained

theorem receiptSending_of_inRange (c : Claim) {next : Tag} (credit : Nat)
    (h : tagDistance a.sendBase next ≤ tagDistance a.sendBase a.sentMark) :
    c.receiptSending i a next credit = c.receipted i a next credit := by
  rw [Claim.receiptSending, if_pos h, Claim.receipted]
  unfold State.raiseSlotIf Assoc.drains
  split <;> rfl

/-- The pass of the claim runs exactly if a buffer came back (R133). -/
theorem finish_receipted (s : State) (next : Tag) (credit : Nat) :
    ((Claim.begin s).receipted i a next credit).finish =
      if ∀ x ∈ (a.sendQueue.take (tagDistance a.sendBase next)).map (·.buffer), s.inFlight a.key.line = some x then
        ((Claim.begin s).receipted i a next credit).st
      else ((Claim.begin s).receipted i a next credit).st.refreshPass := by
  have hserved : ((Claim.begin s).receipted i a next credit).served = none :=
    served_releaseAll a.key.line (a.sendQueue.take (tagDistance a.sendBase next)) (Claim.begin s)
  have htrigger : ((Claim.begin s).receipted i a next credit).trigger =
      (a.sendQueue.take (tagDistance a.sendBase next)).any fun e => s.inFlight a.key.line ≠ some e.buffer :=
    trigger_releaseAll a.key.line (a.sendQueue.take (tagDistance a.sendBase next)) (Claim.begin s)
  split
  · rename_i hall
    refine finish_of_idle hserved ?_
    rw [htrigger, List.any_eq_false]
    intro e he
    simpa using hall _ (List.mem_map_of_mem he)
  · rename_i hsome
    refine finish_of_trigger hserved ?_
    rw [htrigger, List.any_eq_true]
    push Not at hsome
    obtain ⟨x, hx, hne⟩ := hsome
    obtain ⟨e, he, rfl⟩ := List.mem_map.1 hx
    exact ⟨e, he, by simpa using hne⟩

theorem receipted_st (s : State) (next : Tag) (credit : Nat) : ((Claim.begin s).receipted i a next credit).st =
    ((s.setPool { s.pool with
      bufferState := (Claim.releaseAll a.key.line (a.sendQueue.take (tagDistance a.sendBase next))
        (Claim.begin s)).st.pool.bufferState,
      freeList := s.pool.freeList ++ ((a.sendQueue.take (tagDistance a.sendBase next)).map (·.buffer)).filter
        fun x => s.inFlight a.key.line ≠ some x }).setAssoc i (a.receipted next credit)).raiseSlotIf (a.drains next) i
      .drained := by
  have hrel := releaseAll_st a.key.line (a.sendQueue.take (tagDistance a.sendBase next)) (Claim.begin s)
  exact congrArg (fun u : State => (u.setAssoc i (a.receipted next credit)).raiseSlotIf (a.drains next) i .drained) hrel

/-- Settles O33: `u` is the claim's state before its pass, and the record is `receipted`. -/
theorem receiptMovesThePositions : Obligations.ReceiptMovesThePositions := by
  intro s l f i a next credit gone h hb hsends hrange hgone
  subst hgone
  have hexec : exec (.receiveDispatch l) s =
      .next ((Claim.begin (s.popArrived l)).receipted i a next credit).finish := exec_dispatch_of_own h
    (by rw [sameEpoch_receipt _ _ _ hb hsends, receiptSending_of_inRange _ _ hrange])
  have hst := receipted_st (i := i) (a := a) (s.popArrived l) next credit
  have hstates (x : BufferNo) := bufferStateAt_releaseAll a.key.line
    (a.sendQueue.take (tagDistance a.sendBase next)) x (Claim.begin (s.popArrived l))
  have hassoc (p : Pool) : (((s.popArrived l).setPool p).setAssoc i (a.receipted next credit)).assocAt i =
      some (a.receipted next credit) := assocAt_setAssoc_self _ _ _
  have hreasons : (a.receipted next credit).reasons = a.reasons := by rw [receipted_eq]; rfl
  rw [finish_receipted] at hexec
  simp only [inFlight_popArrived] at hexec
  refine ⟨_, { a.receipted next credit with
    reasons := { a.reasons with drained := a.reasons.drained || a.drains next } }, hexec, ?_, ?_⟩
  · rw [hst, assocAt_raiseSlotIf_self _ _ (hassoc _), hreasons]
    cases a.drains next <;> simp [SlotReasons.raise]
  generalize hu : ((Claim.begin (s.popArrived l)).receipted i a next credit).st = u at hst ⊢
  have hattention : u.attention = if a.drains next = true ∧ a.reasons = .empty then s.attention.join (.slot i)
      else s.attention := by
    rw [hst, attention_raiseSlotIf _ _ (hassoc _), hreasons]
    simp
  rw [receipted_eq]
  refine ⟨rfl, rfl, rfl, rfl, rfl, fun e he => ?_, rfl, fun x => ?_, ?_, ?_, fun j hj => ?_, ?_⟩
  · rw [show e = a.drains next from he.trans (drains_eq a next).symm]
    exact ⟨rfl, rfl, rfl, rfl, hattention⟩
  · rw [State.bufferStateAt, hst, pool_raiseSlotIf]
    simpa [Claim.begin, State.bufferStateAt] using hstates x
  · rw [hst]
    simp
  · rw [hst]; simp
  · rw [hst, slotRec_raiseSlotIf_of_ne _ _ hj, slotRec_setAssoc_of_ne _ hj]; simp
  · rw [hst, pool_raiseSlotIf]
    exact raiseSlotIf_frame _ _ _ _

end Receipt

end Sys2Proof.Machine
end

section
/-! Admission and remote restart (R51 to R55, R62, R134). -/

namespace Sys2Proof.Machine

/-! ### The record of an admission -/

/-- The record that admission through entry `e` leaves, with the initial grant `g` (R52, R54, R55, R134). -/
def admittedRecord (l : Line) (f : Frame) (limit credit : Nat) (n : ListenNo) (e : ListenEntry) (g : Nat) : Assoc :=
  { state := if e.mode = .ask then .offered else .opened,
    key := { line := l, station := f.station, an := f.an }, epoch := f.epoch, origin := .listen n,
    params := e.params, outboundLimit := some limit, offerTimeout := some e.offerTimeout,
    sendQueue := [], sendBase := 0, nextToSend := 0, sentMark := 0, submitTag := 0,
    peerLimit := BitVec.ofNat 8 credit, retryCount := 0, abandoned := 0, inboundQueue := [], expected := 0,
    grant := g, advertised := 0, hold := false,
    stateTimer := if e.mode = .ask then .counting e.offerTimeout else .stopped, receiptTimer := .stopped,
    pendingControl := ⟨decide (e.mode = .auto), false, false, decide (0 < g), false⟩,
    reasons := ⟨decide (e.mode = .auto), decide (e.mode = .ask), false, false, false⟩ }

/-- The reason that admission raises (R54, R55). -/
def ListenMode.reason : ListenMode → SlotReason
  | .auto => .opened
  | .ask => .offered

/-- The initial grant of an admission (R134). -/
def ListenEntry.initialGrant (e : ListenEntry) (available : Nat) : Nat :=
  if e.mode = .ask then 0 else min e.params.inboundQuota available

/-- A first raise of a record that was told nothing and holds nothing owes RECEIPT, as G is at most 15 (R96, log 14). -/
theorem given_admitted (l : Line) (f : Frame) (limit credit : Nat) (n : ListenNo) {e : ListenEntry} {g : Nat}
    (he : e.mode = .auto) (hg : g ≤ 15) :
    ({ admittedAssoc l f limit credit n e with
        reasons := (admittedAssoc l f limit credit n e).reasons.raise e.mode.reason }).given g =
      admittedRecord l f limit credit n e g := by
  have hrecord : admittedAssoc l f limit credit n e = (Assoc.fresh .opened { line := l, station := f.station, an := f.an }
      f.epoch (.listen n) e.params (some limit) (some e.offerTimeout) (BitVec.ofNat 8 credit)).owe .openAccept := by
    unfold admittedAssoc
    rw [he]
  have hdist : tagDistance 0 (0 + BitVec.ofNat 8 (0 + g)) = g := by
    simp [tagDistance]
    omega
  rw [hrecord, Assoc.given]
  split
  · subst g
    simp [admittedRecord, he, Assoc.fresh, Assoc.owe, ControlSet.add, ControlSet.put, ControlSet.empty, SlotReasons.empty,
      SlotReasons.raise, ListenMode.reason]
  · rename_i hg0
    have hpos : 0 < g ∧ 1 ≤ g ∧ g ≤ 127 := by omega
    rw [raised_eq]
    simp only [Assoc.fresh, Assoc.owe, hdist]
    simp [admittedRecord, he, hpos, ControlSet.add, ControlSet.put, ControlSet.empty, SlotReasons.empty, SlotReasons.raise,
      ListenMode.reason, AssocState.receives]

section Admission

variable {c : Claim} {l : Line} {f : Frame} {limit credit : Nat} {n : ListenNo} {i : Slot}

theorem admitThrough_eq : c.admitThrough l f limit credit n i =
    { st := (c.st.admitted l f limit credit n i).raiseSlot i (c.st.listenAt n).mode.reason,
      trigger := c.trigger,
      served := if (c.st.listenAt n).mode = .auto then some i else c.served } := by
  unfold Claim.admitThrough
  dsimp only
  split
  · rename_i h
    rw [show (c.st.listenAt n).mode.reason = .opened by rw [h]; rfl, if_pos h]
    rfl
  · rename_i h
    rw [show (c.st.listenAt n).mode.reason = .offered by rw [h]; rfl, if_neg (by simp [h])]
    rfl

/-- The claim of an admission, ended (R133, R134). -/
def Claim.afterAdmission (c : Claim) (l : Line) (f : Frame) (limit credit : Nat) (n : ListenNo) (i : Slot) : State :=
  (c.admitThrough l f limit credit n i).finish

section After

variable (c l f limit credit n i)

theorem generation_afterAdmission_self :
    (c.afterAdmission l f limit credit n i).generation i = c.st.generation i + 1 := by
  simp [Claim.afterAdmission, admitThrough_eq, State.admitted]

theorem addressMap_afterAdmission : (c.afterAdmission l f limit credit n i).addressMap =
    c.st.addressMap ++ [{ key := { line := l, station := f.station, an := f.an }, slot := i }] := by
  obtain ⟨b, hb, -, hkey, -⟩ := admittedAssoc_facts l f limit credit n (c.st.listenAt n)
  simp [Claim.afterAdmission, admitThrough_eq, State.admitted, hb, hkey, Frame.key]

theorem listenAt_afterAdmission_self : (c.afterAdmission l f limit credit n i).listenAt n =
    { c.st.listenAt n with admitted := (c.st.listenAt n).admitted + 1 } := by
  simp [Claim.afterAdmission, admitThrough_eq]

theorem listenAt_afterAdmission_of_ne {m : ListenNo} (h : m ≠ n) :
    (c.afterAdmission l f limit credit n i).listenAt m = c.st.listenAt m := by
  simp [Claim.afterAdmission, admitThrough_eq, listenAt_admitted_of_ne _ _ _ _ _ _ _ h]

theorem attention_afterAdmission :
    (c.afterAdmission l f limit credit n i).attention = c.st.attention.join (.slot i) := by
  obtain ⟨b, hb, -, -, -, -, -, -, -, hreasons⟩ := admittedAssoc_facts l f limit credit n (c.st.listenAt n)
  rw [Claim.afterAdmission, admitThrough_eq, finish_attention, attention_raiseSlot (assocAt_admitted_self _ _ _ _ _ _ _),
    hb, if_pos hreasons, attention_admitted]

theorem line_afterAdmission (m : Line) : (c.afterAdmission l f limit credit n i).line m = c.st.line m := by
  simp [Claim.afterAdmission, admitThrough_eq]

theorem bufferByte_afterAdmission (b : BufferNo) (k : Nat) :
    (c.afterAdmission l f limit credit n i).bufferByte b k = c.st.bufferByte b k := by
  simp [Claim.afterAdmission, admitThrough_eq, State.bufferByte]

/-- Another slot keeps its generation, and its record but for what the pass raises. -/
theorem slot_afterAdmission_of_ne {j : Slot} (h : j ≠ i) :
    (c.afterAdmission l f limit credit n i).generation j = c.st.generation j ∧
    (c.st.assocAt j = none → (c.afterAdmission l f limit credit n i).assocAt j = none) ∧
    ∀ b, c.st.assocAt j = some b → ∃ g x, (c.afterAdmission l f limit credit n i).assocAt j =
      some { b with grant := g, pendingControl := { b.pendingControl with receipt := x } } := by
  have hslot : (c.admitThrough l f limit credit n i).st.slotRec j = c.st.slotRec j := by
    rw [admitThrough_eq, slotRec_raiseSlot_of_ne _ h, slotRec_admitted_of_ne _ _ _ _ _ _ _ h]
  have hassoc : (c.admitThrough l f limit credit n i).st.assocAt j = c.st.assocAt j := by simp [State.assocAt, hslot]
  have hgen : (c.admitThrough l f limit credit n i).st.generation j = c.st.generation j := by
    simp [State.generation, hslot]
  obtain ⟨hfgen, hfnone, hfsome⟩ := finish_slot (c.admitThrough l f limit credit n i) j
  rw [hassoc] at hfnone hfsome
  refine ⟨hfgen.trans hgen, hfnone, fun b hb => ?_⟩
  obtain ⟨g, x, -, he⟩ := hfsome b hb
  exact ⟨g, x, he⟩

end After

/-- The admitted record with its initial grant: no other pass raise reaches it (R134). -/
theorem assocAt_afterAdmission_self (hserved : c.served = none) (hin : (c.st.listenAt n).params.inRange = true) :
    (c.afterAdmission l f limit credit n i).assocAt i =
      some (admittedRecord l f limit credit n (c.st.listenAt n) ((c.st.listenAt n).initialGrant c.st.available)) := by
  have hquota : (c.st.listenAt n).params.inboundQuota ≤ 15 := by
    simp only [Params.inRange, within, Bool.and_eq_true, decide_eq_true_eq] at hin
    omega
  have hself := assocAt_raiseSlot_self _ (assocAt_admitted_self c.st l f limit credit n i) (c.st.listenAt n).mode.reason
  have hparams : (admittedAssoc l f limit credit n (c.st.listenAt n)).params = (c.st.listenAt n).params := by
    obtain ⟨b, hb, -, -, -, hp, -⟩ := admittedAssoc_facts l f limit credit n (c.st.listenAt n)
    rw [hb, hp]
  have havailable (r : SlotReason) :
      ((c.st.admitted l f limit credit n i).raiseSlot i r).available = c.st.available := by simp [State.available]
  cases hmode : (c.st.listenAt n).mode with
  | auto =>
    have hgrant : min (admittedAssoc l f limit credit n (c.st.listenAt n)).params.inboundQuota c.st.available =
        (c.st.listenAt n).initialGrant c.st.available := by
      rw [hparams, ListenEntry.initialGrant, if_neg (by simp [hmode])]
    have hsmall : (c.st.listenAt n).initialGrant c.st.available ≤ 15 := by
      rw [← hgrant, hparams]
      omega
    rw [Claim.afterAdmission, finish_of_served (i := i) (by rw [admitThrough_eq, if_pos hmode]), admitThrough_eq,
      assocAt_servingPass_self hself, havailable, hgrant, given_admitted l f limit credit n hmode hsmall]
  | ask =>
    have hst : (c.admitThrough l f limit credit n i).st.assocAt i =
        some (admittedRecord l f limit credit n (c.st.listenAt n) 0) := by
      rw [admitThrough_eq, hself]
      simp [admittedAssoc, admittedRecord, hmode, Assoc.fresh, ControlSet.empty, SlotReasons.empty, SlotReasons.raise,
        ListenMode.reason]
    rw [Claim.afterAdmission, ListenEntry.initialGrant, if_pos hmode]
    refine assocAt_finish_of_sated hst (wants_of_not_credits ?_) ?_
    · simp [admittedRecord, hmode, AssocState.credits]
    · simp [admitThrough_eq, hmode, hserved]

theorem afterAdmission_of_ask (hserved : c.served = none) (htrigger : c.trigger = false)
    (hmode : (c.st.listenAt n).mode = .ask) : c.afterAdmission l f limit credit n i =
      (c.st.admitted l f limit credit n i).raiseSlot i (c.st.listenAt n).mode.reason := by
  rw [Claim.afterAdmission, admitThrough_eq, if_neg (by simp [hmode])]
  exact finish_of_idle hserved htrigger

end Admission

/-- Settles O27: the claim of an admission over the state with the frame taken off. -/
theorem admissionCreatesAnAssociation : Obligations.AdmissionCreatesAnAssociation := by
  intro s l f limit credit n i hready hb hkey hn hfirst hroom hin hfree
  have hexec : exec (.receiveDispatch l) s =
      .next ((Claim.begin (s.popArrived l)).afterAdmission l f limit credit n i) := by
    rw [exec_dispatch_of_request hready hb hkey, listenAdmission_of_slot (n := n)
      (by rw [firstMatch_arrived, firstMatch_eq_some hn hfirst]) (by rwa [listenAt_arrived])
      (by rw [freeSlot_arrived, freeSlot_of_lowestFree hfree])]
    rfl
  have hself := assocAt_afterAdmission_self (c := Claim.begin (s.popArrived l)) (l := l) (f := f) (limit := limit)
    (credit := credit) (i := i) rfl (by rwa [listenAt_arrived])
  rw [listenAt_arrived, show (Claim.begin (s.popArrived l)).st.available = s.available from available_popArrived] at hself
  refine ⟨_, _, hexec, ?_, hself, ?_, ?_, fun m hm => ?_, ?_, ?_, fun b k => ?_, fun hask => ⟨?_, fun j hj => ?_, ?_⟩,
    fun hauto => ?_⟩
  · rw [generation_afterAdmission_self]
    exact congrArg (· + 1) (generation_popArrived i)
  · rw [addressMap_afterAdmission]
    exact congrArg (· ++ _) addressMap_popArrived
  · rw [listenAt_afterAdmission_self, listenAt_arrived]
  · rw [listenAt_afterAdmission_of_ne _ _ _ _ _ _ _ hm, listenAt_arrived]
  · rw [attention_afterAdmission]
    exact congrArg (Attention.join · _) attention_popArrived
  · rw [line_afterAdmission]
    exact replies_popArrived l
  · rw [bufferByte_afterAdmission]
    exact bufferByte_popArrived b k
  · rw [afterAdmission_of_ask rfl rfl (by rwa [listenAt_arrived]), raiseSlot_pool, pool_admitted]
    exact pool_popArrived
  · rw [afterAdmission_of_ask rfl rfl (by rwa [listenAt_arrived]), slotRec_raiseSlot_of_ne _ hj,
      slotRec_admitted_of_ne _ _ _ _ _ _ _ hj]
    exact slotRec_popArrived j
  · simp [admittedRecord, hask, ListenEntry.initialGrant]
  · simp [admittedRecord, hauto, ListenEntry.initialGrant]

/-! ### Remote restart (R62) -/

section Restart

variable {s : State} {l : Line} {f : Frame} {i j : Slot} {a : Assoc} {n : ListenNo}

/-- Listen admission and its pass leave an ended association's record. -/
theorem slot_listenAdmission_of_idle {c : Claim} {b : Assoc} (hserved : c.served = none) (hb : c.st.assocAt i = some b)
    (hcredits : b.state.credits = false) (limit credit : Nat) :
    (c.listenAdmission l f limit credit).finish.assocAt i = some b ∧
    (c.listenAdmission l f limit credit).finish.generation i = c.st.generation i := by
  have hwants := wants_of_not_credits hcredits
  obtain ⟨r, he⟩ | ⟨n, j, hj, he⟩ := listenAdmission_cases c l f limit credit
  · rw [he, generation_finish, assocAt_finish_of_sated (a := b) (by simp [Claim.reply, hb]) hwants
      (by simp [Claim.reply, hserved])]
    simp [Claim.reply]
  · have hij : i ≠ j := fun e => by rw [e, hj] at hb; cases hb
    have hslot : (c.admitThrough l f limit credit n j).st.slotRec i = c.st.slotRec i := by
      rw [admitThrough_eq, slotRec_raiseSlot_of_ne _ hij, slotRec_admitted_of_ne _ _ _ _ _ _ _ hij]
    have hassoc : (c.admitThrough l f limit credit n j).st.assocAt i = some b := by
      rw [← hb, State.assocAt, hslot]
      rfl
    rw [he, generation_finish, assocAt_finish_of_sated hassoc hwants (by
      rw [admitThrough_eq]
      split <;> simp [hserved, hij.symm])]
    exact ⟨rfl, by rw [State.generation, hslot]; rfl⟩

/-- What the end of the old association leaves for listen admission to look at. -/
structure Restarted (s : State) (l : Line) (i : Slot) (a : Assoc) (c : Claim) : Prop where
  served : c.served = none
  old : c.st.assocAt i = some (a.ended .remoteReset)
  others : ∀ x, x ≠ i → c.st.assocAt x = s.assocAt x
  generations : ∀ x, c.st.generation x = s.generation x
  entries : ∀ n, c.st.listenAt n = { s.listenAt n with
    admitted := if a.origin = .listen n then (s.listenAt n).admitted - 1 else (s.listenAt n).admitted }
  keys : c.st.addressMap = s.addressMap.filter fun e => e.key ≠ a.key
  available : c.st.available = s.pool.freeList.length +
    ((a.sendQueue.map (·.buffer)).filter fun b => s.inFlight a.key.line ≠ some b).length -
      (s.pool.reserved - a.grant + s.pool.hostFloor)
  notices : c.st.attention = if a.reasons = .empty then s.attention.join (.slot i) else s.attention
  lines : ∀ m, c.st.line m = (s.popArrived l).line m

theorem restarted_endAssoc (ha : s.assocAt i = some a) (hl : a.state.isLive = true) :
    Restarted s l i a ((Claim.begin (s.popArrived l)).endAssoc i .remoteReset) := by
  have ha' : (Claim.begin (s.popArrived l)).st.assocAt i = some a := by rw [← ha]; exact assocAt_popArrived i
  obtain ⟨-, -, -, hkeys, -, hfree, hreserved, -, hfloor, -, hlisten, hattention, hlines, -, -, -, -⟩ :=
    (entryToEndedEffects _ i a .remoteReset ha').1 hl
  refine ⟨served_endAssoc _ _ _, assocAt_endAssoc_self _ ha' hl, fun x hx => ?_, fun x => ?_, fun n => ?_, ?_, ?_, ?_,
    hlines⟩
  · rw [assocAt_endAssoc_of_ne _ _ _ hx]
    exact assocAt_popArrived x
  · rw [generation_endAssoc]
    exact generation_popArrived x
  · rw [hlisten, listenAt_arrived]
    split <;> rfl
  · rw [hkeys]
    exact congrArg (List.filter _) addressMap_popArrived
  · rw [State.available, hfree, hreserved, hfloor, List.length_append]
    simp [Claim.begin]
  · rw [hattention, show (Claim.begin (s.popArrived l)).st.attention = s.attention from attention_popArrived]
    rfl

namespace Restarted

variable {c : Claim} (h : Restarted s l i a c)
include h

theorem matches_eq (n : ListenNo) : (c.st.listenAt n).matchesRequest l f = (s.listenAt n).matchesRequest l f := by
  rw [h.entries]
  rfl

theorem noSlot (hfull : ∀ j, s.assocAt j ≠ none) : c.st.freeSlot = none := by
  refine freeSlot_eq_none fun j => ?_
  by_cases hj : j = i
  · subst hj
    simp [h.old]
  · rw [h.others j hj]
    exact hfull j

theorem slot (ha : s.assocAt i = some a) (hj : s.lowestFree j) : c.st.freeSlot = some j := by
  obtain ⟨hfree, hlow⟩ := hj
  have hne : j ≠ i := fun e => by rw [e, ha] at hfree; cases hfree
  refine freeSlot_of_lowestFree ⟨by rw [h.others j hne, hfree], fun x hx => ?_⟩
  by_cases hxi : x = i
  · subst hxi
    simp [h.old]
  · rw [h.others x hxi]
    exact hlow x hx

end Restarted

theorem exec_dispatch_of_restart (hready : s.frameReady l f) (hkey : s.lookup (f.key l) = some i)
    (ha : s.assocAt i = some a) (he : a.epoch ≠ f.epoch) (hst : a.state ≠ .opening) {limit credit : Nat}
    (hb : f.body = .openRequest limit credit) : exec (.receiveDispatch l) s =
      .next (((Claim.begin (s.popArrived l)).endAssoc i .remoteReset).listenAdmission l f limit credit).finish := by
  rw [exec_dispatch_of_other hready hkey ha he, Claim.otherEpoch, hb]
  simp only [if_neg hst]
  rfl

/-- Settles O28: the end of the old association, then listen admission over what it left. -/
theorem restartEndsTheOldAssociation : Obligations.RestartEndsTheOldAssociation := by
  intro s l f i a c hready hkind hkey ha he hl hst hc
  obtain ⟨limit, credit, hb⟩ := body_of_kind_openRequest hkind
  have hexec := exec_dispatch_of_restart hready hkey ha he hst hb
  have hrest := restarted_endAssoc (l := l) ha hl
  rw [← hc] at hexec hrest
  refine ⟨?_, fun hno => ?_, fun n k hn hfirst hk => ?_⟩
  · obtain ⟨hold, hgen⟩ := slot_listenAdmission_of_idle (l := l) (f := f) hrest.served hrest.old rfl limit credit
    exact ⟨_, _, hexec, hold, hgen.trans (hrest.generations i), rfl, rfl, rfl, rfl, rfl, rfl, rfl, rfl, rfl, rfl, rfl⟩
  · rw [hexec, listenAdmission_of_noMatch (firstMatch_eq_none fun n => by rw [hrest.matches_eq, hno])]
    rfl
  have hmatch : c.st.firstMatch l f = some n :=
    firstMatch_eq_some (by rw [hrest.matches_eq, hn]) fun m hm => by rw [hrest.matches_eq, hfirst m hm]
  have hentry : c.st.listenAt n = { s.listenAt n with admitted := k } := by rw [hrest.entries, hk]
  refine ⟨fun hfull => ?_, fun hroom hslots => ?_, fun j limit' credit' g hroom hj hb' hin hg => ?_⟩
  · rw [hexec, listenAdmission_of_full hmatch (by rwa [hentry])]
    rfl
  · rw [hexec, listenAdmission_of_noSlot hmatch (by rwa [hentry]) (hrest.noSlot hslots)]
    rfl
  · obtain ⟨rfl, rfl⟩ : limit = limit' ∧ credit = credit' := by
      rw [hb] at hb'
      simpa using hb'
    rw [listenAdmission_of_slot hmatch (by rwa [hentry]) (hrest.slot ha hj)] at hexec
    have hnew := assocAt_afterAdmission_self (c := c) (l := l) (f := f) (limit := limit) (credit := credit) (n := n)
      (i := j) hrest.served (by rwa [hentry])
    have hgrant : (c.st.listenAt n).initialGrant c.st.available = g := by
      rw [hentry, hg, ListenEntry.initialGrant, hrest.available]
    rw [hgrant, hentry] at hnew
    have hne (x : Slot) (hx : x ≠ j) := slot_afterAdmission_of_ne c l f limit credit n j hx
    refine ⟨_, hexec, ?_, hnew, fun x b hxi hxj hx => ?_, fun x hx => ⟨?_, fun hfree => ?_⟩, ?_, ?_, fun m hm => ?_, ?_,
      fun m => ?_⟩
    · rw [← hrest.generations]
      exact generation_afterAdmission_self c l f limit credit n j
    · exact (hne x hxj).2.2 b (by rw [hrest.others x hxi, hx])
    · exact (hne x hx).1.trans (hrest.generations x)
    · refine (hne x hx).2.1 ?_
      rw [hrest.others x fun e => (by rw [e, ha] at hfree; cases hfree), hfree]
    · rw [← hrest.keys]
      exact addressMap_afterAdmission c l f limit credit n j
    · refine (listenAt_afterAdmission_self c l f limit credit n j).trans ?_
      rw [hentry]
    · refine (listenAt_afterAdmission_of_ne c l f limit credit n j hm).trans ?_
      rw [hrest.entries]
      split <;> rfl
    · rw [← hrest.notices]
      exact attention_afterAdmission c l f limit credit n j
    · rw [← hrest.lines]
      exact line_afterAdmission c l f limit credit n j m

end Restart

end Sys2Proof.Machine
end

section
/-! The line transmitters: the frame of each turn, its effects, and the end of a transmission (R129, R140, R144 to R150). -/

namespace Sys2Proof.Machine

variable {s : State} {l : Line} {i : Slot} {a : Assoc}

/-! ### Turns (R144 to R147) -/

/-- Of the slots that offer something, the one whose turn comes first is found. -/
theorem findSome?_slotsAfter {α : Type} {g : Slot → Option α} {p i : Slot} {x : α} (hi : g i = some x)
    (hfirst : ∀ j, g j ≠ none → turnAfter p i ≤ turnAfter p j) : (slotsAfter p).findSome? g = some x := by
  obtain ⟨before, rest, heq⟩ := List.append_of_mem (mem_slotsAfter p i)
  have hsorted := slotsAfter_sorted p
  rw [heq, List.pairwise_append] at hsorted
  have hnone : before.findSome? g = none := List.findSome?_eq_none_iff.2 fun j hj => by
    by_contra hne
    exact absurd (hsorted.2.2 j hj i List.mem_cons_self) (Nat.not_lt.2 (hfirst j hne))
  rw [heq, List.findSome?_append, hnone, List.findSome?_cons, hi]
  rfl

theorem sendable_iff (a : Assoc) : s.sendable a = true ↔ (a.state = .opened ∨ a.state = .draining) ∧
    a.nextToSend ≠ a.submitTag ∧ tagDistance a.sendBase a.nextToSend < a.params.window ∧
    tagDistance a.sendBase a.nextToSend < tagDistance a.sendBase a.peerLimit ∧
    (s.line a.key.line).state = .active ∧ s.controller = .running := by
  simp only [State.sendable, Assoc.hasUnsent, State.running, Bool.and_eq_true, decide_eq_true_eq, sends_iff, and_assoc]
  exact Iff.rfl

theorem owesData_iff : s.owesData l i a ↔ s.assocAt i = some a ∧ a.key.line = l ∧ s.sendable a = true := by
  rw [sendable_iff]
  constructor
  · rintro ⟨ha, rfl, h⟩
    exact ⟨ha, rfl, h⟩
  · rintro ⟨ha, rfl, h⟩
    exact ⟨ha, rfl, h⟩

theorem dataAt_of_owesData (h : s.owesData l i a) : s.dataAt l i = a.nextEntry.map fun e => .data i a e := by
  obtain ⟨ha, hl, hs⟩ := owesData_iff.1 h
  simp [State.dataAt, ha, hl, hs]

/-- Only an association that owes data is a candidate for a DATA frame. -/
theorem owesData_of_dataAt (h : s.dataAt l i ≠ none) : ∃ a, s.owesData l i a := by
  unfold State.dataAt at h
  split at h
  · exact absurd rfl h
  · rename_i a ha
    split at h
    · rename_i hc
      simp only [Bool.and_eq_true, decide_eq_true_eq] at hc
      exact ⟨a, owesData_iff.2 ⟨ha, hc.1, hc.2⟩⟩
    · exact absurd rfl h

theorem first_eq_none (c : ControlSet) : c.first = none ↔ c = .empty := by
  obtain ⟨x, y, z, u, v⟩ := c
  cases x <;> cases y <;> cases z <;> cases u <;> cases v <;> simp [ControlSet.first, ControlSet.empty]

theorem first_of_turnOf {c : ControlSet} {k : ControlKind} (h : c.turnOf k) : c.first = some k := by
  cases k <;> simp [ControlSet.turnOf] at h <;> simp [ControlSet.first, h]

theorem owesControl_of_controlAt (h : s.controlAt l i ≠ none) : ∃ a, s.owesControl l i a := by
  unfold State.controlAt at h
  split at h
  · exact absurd rfl h
  · rename_i a ha
    split at h
    · rename_i hl
      refine ⟨a, ha, hl, fun he => h ?_⟩
      rw [(first_eq_none _).2 he]
      rfl
    · exact absurd rfl h

theorem dataTurn_eq_none (h : ∀ i a, ¬ s.owesData l i a) : s.dataTurn l = none :=
  List.findSome?_eq_none_iff.2 fun i _ => by
    by_contra hne
    obtain ⟨a, ha⟩ := owesData_of_dataAt hne
    exact h i a ha

theorem controlTurn_eq_none (h : ∀ i a, ¬ s.owesControl l i a) : s.controlTurn l = none :=
  List.findSome?_eq_none_iff.2 fun i _ => by
    by_contra hne
    obtain ⟨a, ha⟩ := owesControl_of_controlAt hne
    exact h i a ha

theorem controlTurn_of_turn {k : ControlKind} (h : s.owesControl l i a)
    (hfirst : ∀ j b, s.owesControl l j b → turnAfter (s.line l).controlPtr i ≤ turnAfter (s.line l).controlPtr j)
    (hk : a.pendingControl.turnOf k) : s.controlTurn l = some (.control i a k) := by
  obtain ⟨ha, hl, -⟩ := h
  refine findSome?_slotsAfter (i := i) ?_ fun j hj => ?_
  · simp [State.controlAt, ha, hl, first_of_turnOf hk]
  · obtain ⟨b, hb⟩ := owesControl_of_controlAt hj
    exact hfirst j b hb

theorem dataTurn_of_turn {e : SendEntry} (h : s.owesData l i a)
    (hfirst : ∀ j b, s.owesData l j b → turnAfter (s.line l).dataPtr i ≤ turnAfter (s.line l).dataPtr j)
    (he : a.nextEntry = some e) : s.dataTurn l = some (.data i a e) := by
  refine findSome?_slotsAfter (i := i) ?_ fun j hj => ?_
  · rw [dataAt_of_owesData h, he]
    rfl
  · obtain ⟨b, hb⟩ := owesData_of_dataAt hj
    exact hfirst j b hb

/-- The first step of R144 yields nothing: no burst of four, or no data to send. -/
theorem burstTurn_eq_none (h : (s.line l).burst ≠ 4 ∨ ∀ i a, ¬ s.owesData l i a) :
    (if (s.line l).burst = Config.burstLimit then s.dataTurn l else none) = none := by
  rcases h with h | h
  · exact if_neg h
  · rw [dataTurn_eq_none h, ite_self]

theorem choose_of_reply {r : Reply} {rest : List Reply} (hr : (s.line l).replies = r :: rest)
    (h : (s.line l).burst ≠ 4 ∨ ∀ i a, ¬ s.owesData l i a) : s.choose l = some (.reply r rest) := by
  rw [State.choose, burstTurn_eq_none h, State.replyTurn, hr]
  rfl

theorem choose_of_control {x : Choice} (hr : (s.line l).replies = [])
    (h : (s.line l).burst ≠ 4 ∨ ∀ i a, ¬ s.owesData l i a) (hx : s.controlTurn l = some x) : s.choose l = some x := by
  rw [State.choose, burstTurn_eq_none h, State.replyTurn, hr, hx]
  rfl

theorem choose_of_data {x : Choice} (h : (s.line l).burst = 4 ∨ ((s.line l).replies = [] ∧ ∀ i a, ¬ s.owesControl l i a))
    (hx : s.dataTurn l = some x) : s.choose l = some x := by
  rw [State.choose, hx]
  rcases h with h | ⟨hr, hc⟩
  · rw [if_pos (show (s.line l).burst = Config.burstLimit from h)]
    rfl
  · rw [State.replyTurn, hr, controlTurn_eq_none hc]
    split <;> rfl

theorem choose_eq_none (hr : (s.line l).replies = []) (hc : ∀ i a, ¬ s.owesControl l i a)
    (hd : ∀ i a, ¬ s.owesData l i a) : s.choose l = none := by
  rw [State.choose, burstTurn_eq_none (.inr hd), State.replyTurn, hr, controlTurn_eq_none hc, dataTurn_eq_none hd]
  rfl

/-! ### The begin (R140, R148) -/

theorem mayBegin_iff : s.mayBegin l = true ↔ s.lineFree l := by
  simp [State.mayBegin, State.lineFree, State.running, and_assoc]

theorem exec_transmissionBegin (l : Line) (s : State) : exec (.transmissionBegin l) s = .next (if s.mayBegin l then
    (match s.choose l with | some c => s.beginChoice l c | none => s) else s) := rfl

theorem exec_begin_of_choice (h : s.lineFree l) {x : Choice} (hx : s.choose l = some x) :
    exec (.transmissionBegin l) s = .next (s.beginChoice l x) := by
  rw [exec_transmissionBegin, if_pos (mayBegin_iff.2 h), hx]

theorem exec_begin_of_still (h : ¬ s.lineFree l ∨ s.choose l = none) : exec (.transmissionBegin l) s = .next s := by
  rw [exec_transmissionBegin]
  rcases h with h | h
  · rw [if_neg (mayBegin_iff.not.2 h)]
  · rw [h, ite_self]

theorem frame_onWire (r : Reply) : (r.frame.body.kind, sentBytes r.frame) = r.onWire := by
  obtain ⟨kind, station, an, epoch⟩ := r
  cases kind with
  | openRefuse reason => cases reason <;> rfl
  | disown => rfl
  | closeConfirm => rfl

theorem controlFrame_onWire (a : Assoc) (k : ControlKind) :
    ((a.frameOf (a.controlBody k)).body.kind, sentBytes (a.frameOf (a.controlBody k))) = a.onWire k := by
  cases k <;> rfl

theorem dataFrame_onWire (s : State) (a : Assoc) (e : SendEntry) :
    sentBytes (a.frameOf (s.dataBody e)) = s.dataOnWire a e := by
  have hpayload : Memory.readBytes s.pool.memory (Memory.cell e.buffer 0) e.length =
      (List.range e.length).map fun k => s.bufferByte e.buffer k := readBytes_eq _ _ _
  rw [State.dataOnWire, ← hpayload]
  rfl

theorem controlBegun_eq (a : Assoc) (k : ControlKind) : a.controlBegun k = a.afterControl k := by
  cases k with
  | openAccept => exact oweIf_receipt _ _
  | _ => rfl

/-- Settles O36: the reply of the queue's head, or no choice. -/
theorem replyGoesOutInTurn : Obligations.ReplyGoesOutInTurn := by
  intro s l
  refine ⟨fun r rest hfree hr hburst => ?_,
    fun h => exec_begin_of_still (h.imp_right fun ⟨hr, hc, hd⟩ => choose_eq_none hr hc hd)⟩
  rw [exec_begin_of_choice hfree (choose_of_reply hr hburst), ← frame_onWire]
  rfl

/-- Settles O37: the control frame of the slot whose turn comes first. -/
theorem controlFrameGoesOutInTurn : Obligations.ControlFrameGoesOutInTurn := by
  intro s l i a k hfree hr hburst howes hfirst hk
  rw [exec_begin_of_choice hfree (choose_of_control hr hburst (controlTurn_of_turn howes hfirst hk)), ← controlBegun_eq,
    ← controlFrame_onWire]
  rfl

/-- Settles O38: the DATA frame of the slot whose turn comes first. -/
theorem dataFrameGoesOutInTurn : Obligations.DataFrameGoesOutInTurn := by
  intro s l i a e front back hfree hturn howes hfirst hqueue htag hfront
  have hnext : a.nextEntry = some e :=
    List.find?_eq_some_iff_append.2 ⟨by simp [htag], front, back, hqueue, fun x hx => by simp [hfront x hx]⟩
  rw [exec_begin_of_choice hfree (choose_of_data hturn (dataTurn_of_turn howes hfirst hnext)), ← dataFrame_onWire]
  rfl

/-! ### The end (R120, R129, R149, R150, R170) -/

theorem frameDone_eq (a : Assoc) (k : FrameKind) : a.frameDone k = a.afterFrame k := by
  have hneeds := timerNeeded_iff a
  cases k <;> simp [Assoc.frameDone, Assoc.afterFrame, Timer.arm, ← hneeds, and_assoc]

theorem recordDone_of_sentFor {r : TxRecord} (h : s.sentFor r i a) :
    s.recordDone r = s.setAssoc i (a.afterFrame r.kind) := by
  obtain ⟨hsource, ha⟩ := h
  rw [State.recordDone, hsource, ← frameDone_eq]
  simp [ha]

theorem recordDone_of_not {r : TxRecord} (h : ∀ i a, ¬ s.sentFor r i a) : s.recordDone r = s := by
  unfold State.recordDone
  split
  · rfl
  · rename_i i g hsource
    split
    · rfl
    · rename_i a ha
      exact if_neg fun hg => h i a ⟨by rw [hsource, hg], ha⟩

@[simp] theorem pool_recordDone (s : State) (r : TxRecord) : (s.recordDone r).pool = s.pool := by
  obtain he | ⟨i, a, -, he⟩ := recordDone_cases s r
  · rw [he]
  · rw [he, setAssoc_pool]

@[simp] theorem controller_recordDone (s : State) (r : TxRecord) : (s.recordDone r).controller = s.controller := by
  obtain he | ⟨i, a, -, he⟩ := recordDone_cases s r
  · rw [he]
  · rw [he, setAssoc_controller]

theorem retire_of_retiring {c : Claim} {b : BufferNo} {m : Line} (h : c.st.bufferStateAt b = .retiring m) :
    c.retire (some b) = c.returnBuffer b := by
  rw [Claim.retire]
  simp only [h]

theorem retire_of_not {c : Claim} {buffer : Option BufferNo}
    (h : ∀ b m, buffer = some b → c.st.bufferStateAt b ≠ .retiring m) : c.retire buffer = c := by
  unfold Claim.retire
  split
  · rfl
  · split
    · exact absurd ‹_› (h _ _ rfl)
    · rfl

/-- The claim of a frame's end, before the stop it may end: the transmitter is idle, and the returned buffer has its pass. -/
theorem endFrame_of_sending {r : TxRecord} {v : State} (out : TxOutput) (h : (s.line l).tx = .sending r)
    (hv : ((∀ b m, r.buffer = some b → s.bufferStateAt b ≠ .retiring m) ∧
        v = (s.recordDone r).setLine l { s.line l with tx := .idle, txOut := out }) ∨
      (∃ b m, r.buffer = some b ∧ s.bufferStateAt b = .retiring m ∧
        v = (((s.recordDone r).setPool { s.pool with
          bufferState := s.pool.bufferState.set b .free, freeList := s.pool.freeList ++ [b] }).setLine l
            { s.line l with tx := .idle, txOut := out }).refreshPass)) :
    s.endFrame l out = v.settleStop := by
  have hstates (b : BufferNo) : (Claim.begin (s.recordDone r)).st.bufferStateAt b = s.bufferStateAt b := by
    rw [begin_st, State.bufferStateAt, pool_recordDone]
    rfl
  rw [State.endFrame, h]
  dsimp only
  rcases hv with ⟨hbuffer, rfl⟩ | ⟨b, m, hb, hret, rfl⟩
  · rw [retire_of_not fun b m hb => (hstates b).symm ▸ hbuffer b m hb, finish_update_begin, line_recordDone]
  · rw [hb, retire_of_retiring ((hstates b).trans hret), finish_of_trigger rfl rfl, update_st, returnBuffer_st, begin_st,
      line_setPool, line_recordDone, pool_recordDone]

/-- Settles O39: completion and cut are the same end of a frame but for the output. -/
theorem transmissionEnds : Obligations.TransmissionEnds := by
  intro s l
  have hcomplete : exec (.transmissionCompletion l) s = .next (s.endFrame l .idleFill) := rfl
  have hcut : exec (.transmissionCut l) s = .next (s.endFrame l .abortPattern) := rfl
  refine ⟨fun h => ?_, fun r c out u v h hc hu hv => ?_⟩
  · rw [hcomplete, hcut]
    simp [State.endFrame, h]
  have hrecord : s.recordDone r = u := by
    rcases hu with ⟨hnot, rfl⟩ | ⟨i, a, hfor, rfl⟩
    · exact recordDone_of_not hnot
    · exact recordDone_of_sentFor hfor
  subst hrecord
  have hexec : exec c s = .next (s.endFrame l out) := by
    rcases hc with ⟨rfl, rfl⟩ | ⟨rfl, rfl⟩
    · exact hcomplete
    · exact hcut
  have hcontroller : v.controller = s.controller := by
    rcases hv with ⟨-, rfl⟩ | ⟨b, m, -, -, rfl⟩ <;> simp
  have hidle : v.bothIdle = true ↔ v.lineA.tx = .idle ∧ v.lineB.tx = .idle := by simp [State.bothIdle]
  rw [hexec, endFrame_of_sending out h hv, State.settleStop, hcontroller]
  simp only [Bool.and_eq_true, decide_eq_true_eq, hidle]

end Sys2Proof.Machine
end

section
/-! The mailbox: how a latched command completes, and the tests of its handle (R5, R174 to R178). -/

namespace Sys2Proof.Machine

variable {s t u : State} {i : Slot} {a : Assoc} {p : Vector Word 6} {code : Byte}

/-! ### Completion (R176, R178) -/

/-- What a completion leaves: under a code the mailbox alone changes, under OK the mailbox gets its results besides the effects. -/
def State.Completed (s t : State) : Prop :=
  (∃ code, t = s.complete code) ∨ ∃ (u : State) (q : Vector Word 4), u.mailbox = s.mailbox ∧ t = u.completeOk q

theorem completed_complete (s : State) (code : Completion) : s.Completed (s.complete code) := .inl ⟨code, rfl⟩

theorem completed_completeOk (h : u.mailbox = s.mailbox) (q : Vector Word 4) : s.Completed (u.completeOk q) :=
  .inr ⟨u, q, h, rfl⟩

theorem State.Completed.mailbox (h : s.Completed t) : ∃ result, t.mailbox.latched = none ∧
    t.mailbox.completion = some result ∧ t.mailbox.params = s.mailbox.params ∧
    (result ≠ .ok → t = s.complete result) := by
  rcases h with ⟨code, rfl⟩ | ⟨u, q, hu, rfl⟩
  · exact ⟨code, rfl, rfl, rfl, fun _ => rfl⟩
  · exact ⟨.ok, rfl, rfl, (congrArg Mailbox.params hu :), fun h => absurd rfl h⟩

theorem completed_withHandle {f : Slot → Assoc → State} (h : ∀ i a, s.assocAt i = some a → s.Completed (f i a)) :
    s.Completed (s.withHandle p f) := by
  unfold State.withHandle
  split
  · exact completed_complete s _
  · rename_i i a hcurrent
    exact h i a ((current_eq_some s).1 hcurrent).2.2

theorem completed_ite {c : Prop} [Decidable c] {x y : State} (hx : s.Completed x) (hy : s.Completed y) :
    s.Completed (if c then x else y) := by
  split
  · exact hx
  · exact hy

theorem completed_open (k : Key) (ps : Params) : s.Completed (s.completeOpen k ps) := by
  refine completed_ite (completed_complete s _) (completed_ite (completed_complete s _) ?_)
  split
  · exact completed_complete s _
  · exact completed_completeOk (by rw [finish_mailbox]; rfl) _

theorem completed_submit (i : Slot) (a : Assoc) (b : BufferNo) (n : Nat) : s.Completed (s.completeSubmit i a b n) :=
  completed_ite (completed_complete s _) (completed_ite (completed_complete s _) (completed_ite (completed_complete s _)
    (completed_ite (completed_complete s _) (completed_completeOk (by rfl) _))))

@[simp] theorem mailbox_abort (c : Claim) (i : Slot) (a : Assoc) : (c.abort i a).st.mailbox = c.st.mailbox := by
  simp [Claim.abort]

theorem mailbox_abortGroup (l : Line) (value mask : Station) (slots : List Slot) : ∀ (c : Claim) (n : Nat),
    (Claim.abortGroup l value mask slots c n).1.st.mailbox = c.st.mailbox := by
  induction slots with
  | nil => intro c n; rfl
  | cons i rest ih =>
    intro c n
    rw [Claim.abortGroup]
    split
    · exact ih c n
    · split
      · rw [ih, mailbox_abort]
      · exact ih c n

@[simp] theorem mailbox_release (c : Claim) (i : Slot) (a : Assoc) : (c.release i a).st.mailbox = c.st.mailbox := by
  rw [release_st]
  rfl

/-- What ABORT-GROUP completes with (R117, R118). -/
def State.groupRow (s : State) (p : Vector Word 6) : State :=
  match groupOperands p with
  | none => s.complete .badParameter
  | some (l, value, mask) =>
    if (s.line l).state = .disabled then s.complete .line
    else
      (Claim.abortGroup l value mask allSlots (Claim.begin s) 0).1.finish.completeOk
        (oneResult (place 0 7 (Claim.abortGroup l value mask allSlots (Claim.begin s) 0).2))

theorem exec_abortGroup (s : State) : exec .cmdAbortGroup s = .next (s.onLatched codeAbortGroup s.groupRow) := rfl

theorem completed_groupRow (p : Vector Word 6) : s.Completed (s.groupRow p) := by
  unfold State.groupRow
  split
  · exact completed_complete s _
  · split
    · exact completed_complete s _
    · exact completed_completeOk (by rw [finish_mailbox, mailbox_abortGroup]; rfl) _

/-- A completion of the latched command `code`, whatever its parameters (R176). -/
def State.Row (s : State) (code : Byte) (t : Host.Outcome State Fault Refusal) : Prop :=
  ∃ f, t = .next (s.onLatched code f) ∧ ∀ p, s.Completed (f p)

theorem row_handle {g : Vector Word 6 → Slot → Assoc → State} (h : ∀ p i a, s.Completed (g p i a)) :
    s.Row code (.next (s.onLatched code fun p => s.withHandle p (g p))) :=
  ⟨_, rfl, fun p => completed_withHandle fun i a _ => h p i a⟩

/-- Each of the sixteen commands is the completion of its code. -/
theorem row_of_mailboxCode {c : Instr} (h : mailboxCode c = some code) (s : State) : s.Row code (exec c s) := by
  cases c <;> cases h
  case cmdOpen =>
    refine ⟨_, rfl, fun p => ?_⟩
    split
    · exact completed_complete s _
    · exact completed_open _ _
  case cmdAccept =>
    exact row_handle fun p i a => completed_ite (completed_complete s _)
      (completed_completeOk (by rw [finish_mailbox]; exact raiseSlot_mailbox _ _ _) _)
  case cmdRefuse =>
    exact row_handle fun p i a => completed_ite (completed_complete s _)
      (completed_completeOk (by rw [finish_mailbox, mailbox_endAssoc]; exact handReply_mailbox _ _ _) _)
  case cmdSubmit =>
    refine row_handle (g := fun p i a => match bufferOfField (fieldNat p[1] 0 8) with
      | none => s.complete .badParameter
      | some b => s.completeSubmit i a b (fieldNat p[1] 16 8)) fun p i a => ?_
    split
    · exact completed_complete s _
    · exact completed_submit i a _ _
  case cmdTake =>
    refine row_handle fun p i a => completed_ite (completed_complete s _) ?_
    split
    · exact completed_complete s _
    · exact completed_completeOk (by rw [finish_mailbox]; rfl) _
  case cmdHold => exact row_handle fun p i a => completed_ite (completed_complete s _) (completed_completeOk (by rfl) _)
  case cmdResume =>
    exact row_handle fun p i a => completed_ite (completed_complete s _)
      (completed_completeOk (by rw [finish_mailbox]; rfl) _)
  case cmdClose => exact row_handle fun p i a => completed_ite (completed_complete s _) (completed_completeOk (by rfl) _)
  case cmdAbort =>
    exact row_handle fun p i a => completed_ite (completed_complete s _)
      (completed_completeOk (by rw [finish_mailbox, mailbox_abort]; rfl) _)
  case cmdAbortGroup => exact ⟨_, exec_abortGroup s, completed_groupRow⟩
  case cmdRelease =>
    exact row_handle fun p i a => completed_ite (completed_complete s _)
      (completed_completeOk (by rw [finish_mailbox, mailbox_release]; rfl) _)
  case cmdAllocate =>
    refine ⟨_, rfl, fun p => ?_⟩
    split
    · exact completed_complete s _
    · exact completed_ite (completed_complete s _) (completed_completeOk (by rfl) _)
  case cmdFree =>
    refine ⟨_, rfl, fun p => ?_⟩
    split
    · exact completed_complete s _
    · exact completed_ite (completed_complete s _) (completed_completeOk (by rw [finish_mailbox]; rfl) _)
  case cmdQuery =>
    refine ⟨_, rfl, fun p => ?_⟩
    split
    · exact completed_complete s _
    · exact completed_completeOk (by rfl) _
  case cmdSetListen =>
    refine ⟨_, rfl, fun p => ?_⟩
    split
    · exact completed_complete s _
    · exact completed_completeOk (by rfl) _
  case cmdGetListen =>
    refine ⟨_, rfl, fun p => ?_⟩
    split
    · exact completed_complete s _
    · exact completed_completeOk (by rfl) _

/-- Settles O46: each row is a completion, and BAD_COMMAND is that of the codes outside the table. -/
theorem mailboxCommandsComplete : Obligations.MailboxCommandsComplete := by
  refine ⟨fun c code s hc => ?_, fun s m hm => ⟨fun hcode => ?_, fun hcode => ?_⟩⟩
  · obtain ⟨f, hexec, hdone⟩ := row_of_mailboxCode hc s
    refine ⟨fun p hp => ?_, fun hnot => ?_⟩
    · obtain ⟨result, hlatched, hcompletion, hparams, hcode⟩ := (hdone p).mailbox
      exact ⟨f p, result, by rw [hexec, onLatched_of_latches s f hp], hlatched, hcompletion, hparams, hcode⟩
    · rw [hexec, onLatched_of_not s f hnot]
  · have hexec : exec .cmdBad s = .next (if commandCodes.contains m.code then s else s.complete .badCommand) := by
      show execCmdBad s = _
      rw [execCmdBad, hm]
    rw [hexec, if_neg (by rwa [List.contains_iff_mem])]
    rfl
  · have hexec : exec .cmdBad s = .next (if commandCodes.contains m.code then s else s.complete .badCommand) := by
      show execCmdBad s = _
      rw [execCmdBad, hm]
    rw [hexec, if_pos (by rwa [List.contains_iff_mem])]

/-! ### The handle (R5, R177) -/

theorem current_of_names {h : Word} (hn : s.names h i a) : s.current h = some (i, a) := (current_eq_some s).2 hn

theorem current_of_stale {h : Word} (hs : s.stale h) : s.current h = none := by
  cases hc : s.current h with
  | none => rfl
  | some x => exact absurd ((current_eq_some s).1 hc) (hs x.1 x.2)

theorem withHandle_of_names (h : s.names p[0] i a) (f : Slot → Assoc → State) : s.withHandle p f = f i a := by
  rw [State.withHandle, current_of_names h]

theorem withHandle_of_stale (h : s.stale p[0]) (f : Slot → Assoc → State) : s.withHandle p f = s.complete .stale := by
  rw [State.withHandle, current_of_stale h]

theorem latched_completes {f : Vector Word 6 → State} (h : s.latches code p) :
    (.next (s.onLatched code f) : Host.Outcome State Fault Refusal) = .next (f p) := by
  rw [onLatched_of_latches s f h]

theorem bufferOfField_eq_some {n : Nat} {b : BufferNo} (h : n = b.val) : bufferOfField n = some b := by
  subst h
  simp [bufferOfField]

theorem bufferOfField_eq_none {n : Nat} (h : 128 ≤ n) : bufferOfField n = none := by
  simp [bufferOfField, h]

theorem refused_credits {st : AssocState} (h : (decide (st = .offered) || !st.isLive) = true) : st.credits = false := by
  cases st <;> simp_all [AssocState.credits, AssocState.isLive]

theorem refused_takes {st : AssocState} (h : (decide (st = .opening) || decide (st = .offered)) = true) :
    st.takes = false := by
  cases st <;> simp_all [AssocState.takes]

/-- A command that takes a handle completes with STATE in the states that do not take it. -/
theorem handle_row {c : Instr} (hc : c ∈ handleCommands) (hcode : mailboxCode c = some code) (s : State) :
    ∃ g : Vector Word 6 → Slot → Assoc → State, exec c s = .next (s.onLatched code fun p => s.withHandle p (g p)) ∧
      ∀ p i a, refusedIn c a.state = true → (c = .cmdSubmit → fieldNat p[1] 0 8 < 128) →
        g p i a = s.complete .state := by
  simp only [handleCommands, List.mem_cons, List.not_mem_nil, or_false] at hc
  rcases hc with rfl | rfl | rfl | rfl | rfl | rfl | rfl | rfl | rfl <;> cases hcode
  · exact ⟨_, rfl, fun p i a h _ => if_pos (of_decide_eq_true h)⟩
  · exact ⟨_, rfl, fun p i a h _ => if_pos (of_decide_eq_true h)⟩
  · refine ⟨fun p i a => match bufferOfField (fieldNat p[1] 0 8) with
      | none => s.complete .badParameter
      | some b => s.completeSubmit i a b (fieldNat p[1] 16 8), rfl, fun p i a h hb => ?_⟩
    simp only [bufferOfField_eq_some (b := ⟨fieldNat p[1] 0 8, hb rfl⟩) rfl]
    exact if_pos (of_decide_eq_true h)
  · exact ⟨_, rfl, fun p i a h _ => if_pos (by rw [refused_takes h]; rfl)⟩
  · exact ⟨_, rfl, fun p i a h _ => if_pos (by rw [refused_credits h]; rfl)⟩
  · exact ⟨_, rfl, fun p i a h _ => if_pos (by rw [refused_credits h]; rfl)⟩
  · exact ⟨_, rfl, fun p i a h _ => if_pos (of_decide_eq_true h)⟩
  · exact ⟨_, rfl, fun p i a h _ => if_pos h⟩
  · exact ⟨_, rfl, fun p i a h _ => if_pos h⟩

/-- Settles O47: the handle comes before the state. -/
theorem handleIsTestedBeforeState : Obligations.HandleIsTestedBeforeState := by
  intro c code s p hc hcode hp
  obtain ⟨g, hexec, hrefused⟩ := handle_row hc hcode s
  refine ⟨fun hstale => ?_, fun i a hnames hst hb => ?_⟩
  · rw [hexec, latched_completes hp, withHandle_of_stale hstale]
  · rw [hexec, latched_completes hp, withHandle_of_names hnames, hrefused p i a hst hb]

end Sys2Proof.Machine
end

section
/-! Fields of words: a placed number is read back from its own field and is not seen in another (R187, R189). -/

namespace Sys2Proof.Machine

theorem getLsbD_place {lo len : Nat} (v k : Nat) : (place lo len v).getLsbD k =
    (decide (k < 32) && (decide (lo ≤ k) && (decide (k - lo < len) && v.testBit (k - lo)))) := by
  rw [place, BitVec.getLsbD_ofNat, Nat.testBit_mul_two_pow, Nat.testBit_mod_two_pow]

theorem extract_place_same {lo len : Nat} (h : lo + len ≤ 32) (v : Nat) :
    (place lo len v).extractLsb' lo len = BitVec.ofNat len v := by
  refine BitVec.eq_of_getLsbD_eq fun k hk => ?_
  rw [BitVec.getLsbD_extractLsb', getLsbD_place, BitVec.getLsbD_ofNat]
  have : lo + k < 32 := by omega
  simp [hk, this]

theorem extract_place_disjoint {lo len x n : Nat} (h : lo + len ≤ x ∨ x + n ≤ lo) (v : Nat) :
    (place lo len v).extractLsb' x n = 0 := by
  refine BitVec.eq_of_getLsbD_eq fun k hk => ?_
  rw [BitVec.getLsbD_extractLsb', getLsbD_place]
  rcases h with h | h
  · have : ¬ x + k - lo < len := by omega
    simp [this]
  · have : ¬ lo ≤ x + k := by omega
    simp [this]

theorem place_low (len v : Nat) : place 0 len v = BitVec.ofNat 32 (v % 2 ^ len) := by
  rw [place, Nat.pow_zero, Nat.mul_one]

/-- A number in the lowest bits of a word is that number. -/
theorem place_zero {len v : Nat} (h : v < 2 ^ len) : place 0 len v = BitVec.ofNat 32 v := by
  rw [place_low, Nat.mod_eq_of_lt h]

theorem place_byte (t : Byte) : place 0 8 t.toNat = t.setWidth 32 := by
  rw [place_zero t.isLt]
  simp [BitVec.setWidth_eq_append, BitVec.ofNat_toNat]

/-! ### Handles (R5) -/

theorem fieldNat_handleWord (i : Slot) (g : BitVec 16) : fieldNat (handleWord i g) 0 8 = i.val := by
  rw [fieldNat, handleWord, BitVec.extractLsb'_or, extract_place_same (by decide), extract_place_disjoint (by decide)]
  have := i.isLt
  simp
  omega

theorem generation_handleWord (i : Slot) (g : BitVec 16) : (handleWord i g).extractLsb' 16 16 = g := by
  rw [handleWord, BitVec.extractLsb'_or, extract_place_same (by decide), extract_place_disjoint (by decide)]
  simp

end Sys2Proof.Machine
end

section
/-! The effects of the mailbox commands (R42, R43, R56, R58, R67, R68, R99 to R101, R107, R115, R117, R118, R121). -/

namespace Sys2Proof.Machine

variable {s u : State} {i j : Slot} {a : Assoc} {p : Vector Word 6}

/-! ### Rows -/

theorem exec_of_latched {c : Instr} {code : Byte} {f : Vector Word 6 → State}
    (hexec : exec c s = .next (s.onLatched code f)) (h : s.latches code p) : exec c s = .next (f p) := by
  rw [hexec, latched_completes h]

theorem exec_of_handle {c : Instr} {code : Byte} {g : Vector Word 6 → Slot → Assoc → State}
    (hexec : exec c s = .next (s.onLatched code fun p => s.withHandle p (g p))) (h : s.latches code p)
    (hn : s.names p[0] i a) : exec c s = .next (g p i a) := by
  rw [exec_of_latched hexec h, withHandle_of_names hn]

theorem completeOk_of_mailbox (h : u.mailbox = s.mailbox) (q : Vector Word 4) :
    u.completeOk q = { u with mailbox := { s.mailbox with latched := none, completion := some .ok, results := q } } := by
  rw [State.completeOk, h]

@[simp] theorem serving_st (c : Claim) (i : Slot) : (c.serving i).st = c.st := rfl

/-- A slot that a claim has left alone keeps everything but what the pass raises. -/
theorem slot_finish_of_same {c : Claim} (h : c.st.slotRec j = s.slotRec j) : c.finish.generation j = s.generation j ∧
    (s.assocAt j = none → c.finish.assocAt j = none) ∧ ∀ b, s.assocAt j = some b → ∃ g x, c.finish.assocAt j =
      some { b with grant := g, pendingControl := { b.pendingControl with receipt := x } } := by
  have hassoc : c.st.assocAt j = s.assocAt j := by rw [State.assocAt, State.assocAt, h]
  obtain ⟨hgen, hnone, hsome⟩ := finish_slot c j
  rw [hassoc] at hnone hsome
  refine ⟨hgen.trans (by rw [State.generation, State.generation, h]), hnone, fun b hb => ?_⟩
  obtain ⟨g, x, -, he⟩ := hsome b hb
  exact ⟨g, x, he⟩

theorem given_eq (a : Assoc) (n : Nat) : a.given n = { a with
    grant := a.grant + n,
    pendingControl := { a.pendingControl with
      receipt := a.pendingControl.receipt || (decide (0 < n) && (a.state.receives &&
        decide (1 ≤ tagDistance a.advertised (a.expected + BitVec.ofNat 8 (a.grant + n)) ∧
          tagDistance a.advertised (a.expected + BitVec.ofNat 8 (a.grant + n)) ≤ 127))) } } := by
  unfold Assoc.given
  split
  · subst n
    simp
  · rename_i hn
    rw [raised_eq, decide_eq_true (Nat.pos_of_ne_zero hn), Bool.true_and]

/-! ### HOLD, RESUME, CLOSE -/

/-- Settles O52: each row with the handle's association. -/
theorem holdResumeAndClose : Obligations.HoldResumeAndClose := by
  intro s p i a hn
  have hcredits (h : a.state = .opening ∨ a.state = .opened ∨ a.state = .draining ∨ a.state = .closing) :
      ¬ (!a.state.credits) = true := by rcases h with h | h | h | h <;> simp [h, AssocState.credits]
  refine ⟨fun h hst => ?_, fun h hst => ?_, fun h hst => ⟨fun hq => ?_, fun hq => ?_⟩⟩
  · rw [exec_of_handle (c := .cmdHold) rfl h hn, if_neg (hcredits hst)]
    rfl
  · rw [exec_of_handle (c := .cmdResume) rfl h hn, if_neg (hcredits hst)]
    rfl
  · rw [exec_of_handle (c := .cmdClose) rfl h hn, if_neg (by simp [hst]), Assoc.closes, if_neg (by simpa using hq)]
    rfl
  · rw [exec_of_handle (c := .cmdClose) rfl h hn, if_neg (by simp [hst]), Assoc.closes, if_pos (by simpa using hq)]
    rfl

/-! ### SUBMIT and TAKE -/

theorem submitted_eq (a : Assoc) (b : BufferNo) (n : Nat) {a1 : Assoc} (ha1 : a1 = { a with
      sendQueue := a.sendQueue ++ [{ tag := a.submitTag, buffer := b, length := n }], submitTag := a.submitTag + 1 }) :
    a.submitted b n = if ¬ a.IsStalled ∧ a1.IsStalled then { a1 with stateTimer := .counting a.params.resendPeriod }
      else a1 := by
  subst ha1
  unfold Assoc.submitted
  simp only [Bool.and_eq_true, Bool.not_eq_true', Bool.eq_false_iff, ne_eq, stalled_iff]
  rfl

theorem exec_submit_of_none (h : s.latches codeSubmit p) (hn : s.names p[0] i a)
    (hb : bufferOfField (fieldNat p[1] 0 8) = none) : exec .cmdSubmit s = .next (s.complete .badParameter) := by
  show execCmdSubmit s = _
  rw [execCmdSubmit, latched_completes h, withHandle_of_names hn, hb]

theorem exec_submit_of_some {b : BufferNo} (h : s.latches codeSubmit p) (hn : s.names p[0] i a)
    (hb : bufferOfField (fieldNat p[1] 0 8) = some b) :
    exec .cmdSubmit s = .next (s.completeSubmit i a b (fieldNat p[1] 16 8)) := by
  show execCmdSubmit s = _
  rw [execCmdSubmit, latched_completes h, withHandle_of_names hn, hb]

theorem within_one_iff {hi n : Nat} : within 1 hi n = true ↔ 1 ≤ n ∧ n ≤ hi := by simp [within]

/-- Settles O51: the tests in their order, then the effects. -/
theorem dataCommands : Obligations.DataCommands := by
  intro s p i a hn
  refine ⟨fun h => ⟨fun hb => ?_, fun b hb hst n hlen => ?_⟩, fun h h1 h2 => ?_⟩
  · exact exec_submit_of_none h hn (bufferOfField_eq_none hb)
  · rw [exec_submit_of_some h hn (bufferOfField_eq_some hb), ← hlen, State.completeSubmit, if_neg (by simp [hst])]
    refine ⟨fun hbad => ?_, fun hlo hhi => ?_⟩
    · rw [if_pos (by rw [Bool.not_eq_true', Bool.eq_false_iff, Ne, within_one_iff]; omega)]
    · have hwithin : ¬ (!within 1 (a.outboundLimit.getD 0) n) = true := by
        simp [within_one_iff.2 ⟨hlo, hhi⟩]
      rw [if_neg hwithin]
      refine ⟨fun howner => by rw [if_pos howner], fun howner hfull => ?_, fun howner hroom => ⟨_, rfl, ?_⟩⟩
      · rw [if_neg (by simp [howner]), if_pos hfull]
      · rw [if_neg (by simp [howner]), if_neg (Nat.not_le.2 hroom), submitted_eq a b n rfl, oneResult, place_byte]
        rfl
  · have htakes : ¬ (!a.state.takes) = true := by
      cases hst : a.state <;> simp_all [AssocState.takes]
    refine ⟨fun hq => ?_, fun e rest hq => ?_⟩
    · rw [exec_of_handle (c := .cmdTake) rfl h hn, if_neg htakes]
      simp only [hq]
    · rw [exec_of_handle (c := .cmdTake) rfl h hn, if_neg htakes]
      simp only [hq]
      rw [place_zero (show e.buffer.val < 2 ^ 8 by omega), place_low, finish_of_trigger rfl rfl]
      rfl

/-! ### ACCEPT, REFUSE, ABORT -/

/-- Settles O50: ACCEPT's claim serves the association first; REFUSE's claim ends it. -/
theorem offerDecisions : Obligations.OfferDecisions := by
  intro s p i a hn hst
  have ha := hn.2.2
  refine ⟨fun h n hlen => ?_, fun h => ⟨_, rfl, ?_⟩⟩
  · have hself : ((s.setAssoc i a.acceptedOffer).raiseSlot i .opened).assocAt i =
        some { a.acceptedOffer with reasons := a.acceptedOffer.reasons.raise .opened } :=
      assocAt_raiseSlot_self _ (assocAt_setAssoc_self s i _) .opened
    have havailable : ((s.setAssoc i a.acceptedOffer).raiseSlot i .opened).available = s.available := by
      simp [State.available]
    have hserving : ((s.setAssoc i a.acceptedOffer).raiseSlot i .opened).servingPass i =
      (((Claim.begin s).update fun t => (t.setAssoc i a.acceptedOffer).raiseSlot i .opened).serving i).finish := rfl
    refine ⟨_, (exec_of_handle (c := .cmdAccept) rfl h hn).trans (by rw [if_neg (by simp [hst])]), ?_, ?_, fun j hj => ?_,
      ?_, ?_, fun l => ?_, ?_, ?_, ?_, ?_⟩
    · rw [assocAt_completeOk, ← hserving, assocAt_servingPass_self hself, havailable, given_eq, hlen]
      rfl
    · simp
    · refine slot_finish_of_same ?_
      rw [serving_st, update_st, slotRec_raiseSlot_of_ne _ hj, slotRec_setAssoc_of_ne _ hj]
      rfl
    · refine congrArg State.mailbox (completeOk_of_mailbox (s := s) ?_ _)
      rw [finish_mailbox]
      exact raiseSlot_mailbox _ _ _
    · show State.attention (Claim.finish _) = _
      rw [finish_attention]
      exact attention_raiseSlot (assocAt_setAssoc_self s i a.acceptedOffer) .opened
    · rw [line_completeOk, line_finish]
      exact line_raiseSlot _ _ _ l
    · exact (finish_addressMap _).trans (raiseSlot_addressMap _ _ _)
    · exact (finish_listen _).trans (raiseSlot_listen _ _ _)
    · exact (freeList_finish _).trans (congrArg Pool.freeList (raiseSlot_pool _ _ _))
    · exact (bufferState_finish _).trans (congrArg Pool.bufferState (raiseSlot_pool _ _ _))
  · rw [exec_of_handle (c := .cmdRefuse) rfl h hn, if_neg (by simp [hst]), completeOk_of_mailbox (s := s)]
    · rfl
    · rw [finish_mailbox, mailbox_endAssoc]
      exact handReply_mailbox _ _ _

theorem leave_eq (t : Attention) (src : Source) : t.leave src =
    if t.list.filter (fun x => x ≠ src) = [] ∧ t.list ≠ [] then
      { t with list := [], holdoffTimer := .stopped, indicator := false }
    else { t with list := t.list.filter fun x => x ≠ src } := by
  unfold Attention.leave Attention.shorten
  simp only [Bool.and_eq_true, Bool.not_eq_true', List.isEmpty_iff, List.isEmpty_eq_false_iff, ne_eq]

/-- Settles O53: ABORT is the reply and the end; RELEASE is `Claim.release` with its pass. -/
theorem abortAndRelease : Obligations.AbortAndRelease := by
  intro s p i a hn
  refine ⟨fun h hl => ⟨_, rfl, ?_⟩, fun h hl => ?_⟩
  · rw [exec_of_handle (c := .cmdAbort) rfl h hn, if_neg (by simp [hl]), completeOk_of_mailbox (s := s)]
    · rfl
    · rw [finish_mailbox, mailbox_abort]
      rfl
  · have hst := release_st (Claim.begin s) i a
    have hpool : ((Claim.begin s).release i a).finish.pool.freeList = s.pool.freeList ++ a.inboundQueue.map (·.buffer) := by
      rw [freeList_finish, hst]
      exact freeList_returnAll a.inboundQueue (Claim.begin s)
    refine ⟨((Claim.begin s).release i a).finish.completeOk noResults,
      (exec_of_handle (c := .cmdRelease) rfl h hn).trans (by rw [if_neg (by simp [hl])]), ?_, ?_,
      fun j hj => ?_, hpool, fun b => ?_, ?_, ?_, fun l => ?_, ?_, ?_⟩
    · exact assocAt_finish_of_none _ (assocAt_release_self _ _ _)
    · rw [generation_completeOk, generation_finish, hst]
      simp
    · refine slot_finish_of_same ?_
      rw [hst, slotRec_setSlotRec_of_ne _ hj]
      rfl
    · rw [bufferStateAt_completeOk, bufferStateAt_finish, hst]
      exact bufferStateAt_returnAll a.inboundQueue b (Claim.begin s)
    · refine (finish_attention _).trans ?_
      rw [hst]
      exact leave_eq s.attention (.slot i)
    · refine congrArg State.mailbox (completeOk_of_mailbox (s := s) ?_ _)
      rw [finish_mailbox, mailbox_release]
      rfl
    · rw [line_completeOk, line_finish, hst]
      cases l <;> rfl
    · refine (finish_addressMap _).trans ?_
      rw [hst]
      rfl
    · refine (finish_listen _).trans ?_
      rw [hst]
      rfl

/-! ### ABORT-GROUP -/

section Group

variable {l : Line} {value mask : Station}

theorem inGroup_iff : a.inGroup l value mask = true ↔ a.OfGroup l value mask := by
  rw [Assoc.inGroup, Bool.and_eq_true, Bool.and_eq_true, decide_eq_true_eq, agrees_iff_getLsbD, and_assoc]

theorem inGroup_eq (a : Assoc) : a.inGroup l value mask = decide (a.OfGroup l value mask) :=
  Bool.eq_iff_iff.2 (by rw [inGroup_iff, decide_eq_true_eq])

theorem slotsEnded_abortGroup (l : Line) (value mask : Station) : ∀ {slots : List Slot}, slots.Nodup →
    ∀ (c : Claim) (n : Nat), SlotsEnded (fun a => a.inGroup l value mask) .localAbort slots c.st
      (Claim.abortGroup l value mask slots c n).1.st := by
  intro slots
  induction slots with
  | nil => exact fun _ c n => SlotsEnded.nil _ _ _
  | cons i rest ih =>
    intro hn c n
    obtain ⟨hi, hrest⟩ := List.nodup_cons.1 hn
    have hpass (h : ∀ a, c.st.assocAt i = some a → a.inGroup l value mask = false) :
        SlotsEnded (fun a => a.inGroup l value mask) .localAbort (i :: rest) c.st
          (Claim.abortGroup l value mask rest c n).1.st :=
      SlotsEnded.cons hi (SlotsEnded.pass h) (ih hrest c n)
    rw [Claim.abortGroup]
    split
    · rename_i ha
      exact hpass fun b hb => by rw [ha] at hb; cases hb
    · rename_i a ha
      split
      · rename_i hg
        refine SlotsEnded.cons hi ?_ (ih hrest (c.abort i a) (n + 1))
        exact SlotsEnded.single (c := c.update fun s => s.handReply a.key.line a.abortReply) (fun j => slotRec_handReply _ _ _ j)
          (by simp) (by simp) (by simp) (by simp) ha (inGroup_iff.1 hg).1 hg
      · rename_i hg
        refine hpass fun b hb => ?_
        rw [ha] at hb
        cases hb
        simpa using hg

/-- The reply that ABORT-GROUP hands for a slot (R115, R118). -/
def State.groupReply (s : State) (l : Line) (value mask : Station) (i : Slot) : Option Reply :=
  (s.assocAt i).bind fun a => if a.OfGroup l value mask then some a.abortReply else none

/-- The associations of the group, in slot order. -/
def State.groupMember (s : State) (l : Line) (value mask : Station) (i : Slot) : Bool :=
  (s.assocAt i).elim false fun a => decide (a.OfGroup l value mask)

theorem line_handReply_congr {s u : State} (h : s.line l = u.line l) (r : Reply) :
    (s.handReply l r).line l = (u.handReply l r).line l := by
  unfold State.handReply
  rw [h]
  split
  · exact h
  · split <;> simp [State.bumpTally, h]

theorem line_foldl_handReply_congr (rs : List Reply) : ∀ {s u : State}, s.line l = u.line l →
    (rs.foldl (fun u r => u.handReply l r) s).line l = (rs.foldl (fun u r => u.handReply l r) u).line l := by
  induction rs with
  | nil => exact fun h => h
  | cons r rest ih => exact fun h => ih (line_handReply_congr h r)

theorem assocAt_abort_of_ne (c : Claim) (a : Assoc) (h : j ≠ i) : (c.abort i a).st.assocAt j = c.st.assocAt j := by
  rw [Claim.abort, assocAt_endAssoc_of_ne _ _ _ h]
  exact assocAt_handReply _ _ _ _

theorem line_abort (c : Claim) (i : Slot) (a : Assoc) (m : Line) :
    (c.abort i a).st.line m = (c.st.handReply a.key.line a.abortReply).line m := by
  rw [Claim.abort, line_endAssoc]
  rfl

/-- The replies go to the line's queue in slot order; the other line is left alone; the count is the group's size. -/
theorem abortGroup_lines (l : Line) (value mask : Station) : ∀ {slots : List Slot}, slots.Nodup → ∀ (c : Claim) (n : Nat),
    (Claim.abortGroup l value mask slots c n).1.st.line l =
      ((slots.filterMap (c.st.groupReply l value mask)).foldl (fun u r => u.handReply l r) c.st).line l ∧
    (∀ m, m ≠ l → (Claim.abortGroup l value mask slots c n).1.st.line m = c.st.line m) ∧
    (Claim.abortGroup l value mask slots c n).2 = n + (slots.filter (c.st.groupMember l value mask)).length ∧
    (Claim.abortGroup l value mask slots c n).1.served = c.served := by
  intro slots
  induction slots with
  | nil => exact fun _ c n => ⟨rfl, fun _ _ => rfl, rfl, rfl⟩
  | cons i rest ih =>
    intro hn c n
    obtain ⟨hi, hrest⟩ := List.nodup_cons.1 hn
    by_cases hg : ∃ a, c.st.assocAt i = some a ∧ a.OfGroup l value mask
    · obtain ⟨a, ha, hg⟩ := hg
      have hstep : Claim.abortGroup l value mask (i :: rest) c n =
          Claim.abortGroup l value mask rest (c.abort i a) (n + 1) := by
        rw [Claim.abortGroup, ha]
        exact if_pos (inGroup_iff.2 hg)
      have hreply : c.st.groupReply l value mask i = some a.abortReply := by
        rw [State.groupReply, ha]
        exact if_pos hg
      have hmember : c.st.groupMember l value mask i = true := by
        rw [State.groupMember, ha]
        exact decide_eq_true hg
      have hsame (j : Slot) (hj : j ∈ rest) : (c.abort i a).st.assocAt j = c.st.assocAt j :=
        assocAt_abort_of_ne c a fun h => hi (h ▸ hj)
      have hreplies : rest.filterMap ((c.abort i a).st.groupReply l value mask) =
          rest.filterMap (c.st.groupReply l value mask) :=
        List.filterMap_congr fun j hj => by simp only [State.groupReply, hsame j hj]
      have hmembers : rest.filter ((c.abort i a).st.groupMember l value mask) =
          rest.filter (c.st.groupMember l value mask) :=
        List.filter_congr fun j hj => by simp only [State.groupMember, hsame j hj]
      obtain ⟨hline, hother, hcount, hserved⟩ := ih hrest (c.abort i a) (n + 1)
      rw [hstep]
      refine ⟨?_, fun m hm => ?_, ?_, by rw [hserved, served_abort]⟩
      · rw [hline, List.filterMap_cons, hreply, hreplies]
        refine line_foldl_handReply_congr _ ?_
        rw [line_abort, hg.2.1]
      · rw [hother m hm, line_abort, line_handReply_of_ne _ (by rwa [hg.2.1])]
      · rw [hcount, hmembers, List.filter_cons_of_pos hmember, List.length_cons]
        omega
    · have hstep : Claim.abortGroup l value mask (i :: rest) c n = Claim.abortGroup l value mask rest c n := by
        rw [Claim.abortGroup]
        split
        · rfl
        · rename_i a ha
          exact if_neg fun h => hg ⟨a, ha, inGroup_iff.1 h⟩
      have hreply : c.st.groupReply l value mask i = none := by
        cases ha : c.st.assocAt i with
        | none => simp [State.groupReply, ha]
        | some a => simpa [State.groupReply, ha] using fun h => hg ⟨a, ha, h⟩
      have hmember : ¬ c.st.groupMember l value mask i = true := by
        cases ha : c.st.assocAt i with
        | none => simp [State.groupMember, ha]
        | some a => simpa [State.groupMember, ha] using fun h => hg ⟨a, ha, h⟩
      rw [hstep, List.filterMap_cons, hreply, List.filter_cons_of_neg hmember]
      exact ih hrest c n

end Group

/-- Settles O54: the group's associations end in slot order, and a pass follows. -/
theorem abortGroupCommand : Obligations.AbortGroupCommand := by
  intro s p h
  refine ⟨fun hp => ?_, fun l value mask hp => ⟨fun hdisabled => ?_, fun henabled => ?_⟩⟩
  · rw [exec_of_latched (exec_abortGroup s) h, State.groupRow, hp]
  · rw [exec_of_latched (exec_abortGroup s) h, State.groupRow, hp]
    exact congrArg _ (if_pos hdisabled)
  have hrow : exec .cmdAbortGroup s = .next ((Claim.abortGroup l value mask allSlots (Claim.begin s) 0).1.finish.completeOk
      (oneResult (place 0 7 (Claim.abortGroup l value mask allSlots (Claim.begin s) 0).2))) := by
    rw [exec_of_latched (exec_abortGroup s) h, State.groupRow, hp]
    exact congrArg _ (if_neg henabled)
  have hended := slotsEnded_abortGroup l value mask allSlots_nodup (Claim.begin s) 0
  obtain ⟨hline, hother, hcount, hserved⟩ := abortGroup_lines l value mask allSlots_nodup (Claim.begin s) 0
  generalize Claim.abortGroup l value mask allSlots (Claim.begin s) 0 = y at hrow hended hline hother hcount hserved
  obtain ⟨c, n⟩ := y
  dsimp only at hrow hended hline hother hcount hserved
  have hsmall : (allSlots.filter (s.groupMember l value mask)).length < 2 ^ 7 := by
    have : allSlots.length = 64 := rfl
    have := List.length_filter_le (s.groupMember l value mask) allSlots
    omega
  refine ⟨_, hrow, fun i a ha hg => ?_, fun i a ha hg => ?_, fun i => ⟨?_, fun ha => ?_⟩, ?_, fun m hm => ?_, ?_, ?_⟩
  · have hb := hended.hit i a (mem_allSlots i) ha (inGroup_iff.2 hg)
    exact assocAt_finish_of_sated hb (wants_of_not_credits rfl) (by simp [hserved])
  · have hb : c.st.assocAt i = some a := by
      rw [hended.assocAt ha, if_neg (inGroup_iff.not.2 hg)]
    obtain ⟨g, x, -, he⟩ := (finish_slot c i).2.2 a hb
    exact ⟨g, x, he⟩
  · rw [generation_completeOk, generation_finish]
    exact hended.generations i
  · exact assocAt_finish_of_none _ (hended.assocAt_of_none ha)
  · rw [line_completeOk, line_finish, hline]
    rfl
  · rw [line_completeOk, line_finish, hother m hm]
    rfl
  · refine (congrArg Attention.list (finish_attention _)).trans (hended.notices.trans ?_)
    simp only [inGroup_eq]
    rfl
  · rw [completeOk_of_mailbox (s := s) ((finish_mailbox _).trans hended.mailbox), hcount, Nat.zero_add, oneResult,
      show place 0 7 (allSlots.filter ((Claim.begin s).st.groupMember l value mask)).length = _ from place_zero hsmall]
    rfl

/-! ### OPEN -/

theorem opens_eq_false {st : LineState} (h : st = .disabled ∨ st = .down) : st.opens = false := by
  rcases h with rfl | rfl <;> rfl

theorem opens_eq_true {st : LineState} (h : st = .active ∨ st = .suspended) : st.opens = true := by
  rcases h with rfl | rfl <;> rfl

theorem exec_open_of_none (h : s.latches codeOpen p) (hp : openOperands p = none) :
    exec .cmdOpen s = .next (s.complete .badParameter) := by
  show execCmdOpen s = _
  rw [execCmdOpen, latched_completes h, hp]

theorem exec_open_of_some {k : Key} {ps : Params} (h : s.latches codeOpen p) (hp : openOperands p = some (k, ps)) :
    exec .cmdOpen s = .next (s.completeOpen k ps) := by
  show execCmdOpen s = _
  rw [execCmdOpen, latched_completes h, hp]

/-- OPEN's claim: the creation, then the pass that serves it first (R43, R134). -/
def State.openClaim (s : State) (i : Slot) (k : Key) (ps : Params) : Claim :=
  ((Claim.begin s).update fun t => t.create i (t.opensAssoc i k ps)).serving i

theorem completeOpen_of_slot {k : Key} {ps : Params} (hline : (s.line k.line).state.opens = true) (hkey : s.lookup k = none)
    (hslot : s.freeSlot = some i) : s.completeOpen k ps =
      (s.openClaim i k ps).finish.completeOk (oneResult (handleWord i (s.generation i + 1))) := by
  rw [State.completeOpen, hline, hkey, hslot]
  rfl

theorem assocAt_openClaim (k : Key) (ps : Params) : (s.openClaim i k ps).finish.assocAt i =
    some { s.opensAssoc i k ps with grant := min ps.inboundQuota s.available } := by
  have hself : (s.create i (s.opensAssoc i k ps)).assocAt i = some (s.opensAssoc i k ps) := assocAt_create_self s i _
  have hserving : (s.openClaim i k ps).finish = (s.create i (s.opensAssoc i k ps)).servingPass i := rfl
  have havailable : (s.create i (s.opensAssoc i k ps)).available = s.available := rfl
  rw [hserving, assocAt_servingPass_self hself, given_eq, havailable]
  simp [State.opensAssoc, Assoc.owe, Assoc.fresh, AssocState.receives]

/-- Settles O49: the tests in their order, then the creation and its pass. -/
theorem openCommand : Obligations.OpenCommand := by
  intro s p h
  refine ⟨exec_open_of_none h, fun k ps hp => ⟨fun hline => ?_, fun hline => ?_⟩⟩
  · rw [exec_open_of_some h hp, State.completeOpen, opens_eq_false hline]
    rfl
  have hopens := opens_eq_true hline
  have hexec := exec_open_of_some h hp
  refine ⟨fun ⟨i, hi⟩ => ?_, fun hkey hfull => ?_, fun i hkey hfree => ?_⟩
  · rw [hexec, State.completeOpen, hopens, hi]
    rfl
  · rw [hexec, State.completeOpen, hopens, hkey, freeSlot_eq_none hfull]
    rfl
  rw [completeOpen_of_slot hopens hkey (freeSlot_of_lowestFree hfree)] at hexec
  have hgen : (s.openClaim i k ps).finish.generation i = s.generation i + 1 := by
    rw [generation_finish]
    exact generation_create_self s i _
  refine ⟨(s.openClaim i k ps).finish.completeOk _, handleWord i (s.generation i + 1), _, hexec,
    ⟨fieldNat_handleWord i _, (generation_handleWord i _).trans hgen.symm,
      assocAt_openClaim k ps⟩, ?_, hgen, rfl, fun j hj => ?_,
    ?_, ?_, fun l => ?_, ?_, ?_, ?_⟩
  · refine congrArg State.mailbox (completeOk_of_mailbox (s := s) ?_ _)
    rw [finish_mailbox]
    rfl
  · refine slot_finish_of_same ?_
    exact slotRec_create_of_ne s i hj _
  · exact finish_addressMap _
  · exact finish_listen _
  · rw [line_completeOk, line_finish]
    exact line_create s i _ l
  · exact finish_attention _
  · exact freeList_finish _
  · exact bufferState_finish _

end Sys2Proof.Machine
end

section
/-! Operand words and result words, field by field (R25, R42, R49, R63, R64, R117, R189). -/

namespace Sys2Proof.Machine

/-! ### Fields of placed numbers -/

theorem fieldNat_or (x y : Word) (lo len : Nat) :
    fieldNat (x ||| y) lo len = fieldNat x lo len ||| fieldNat y lo len := by
  simp [fieldNat, BitVec.extractLsb'_or]

theorem fieldNat_place_same {lo len : Nat} (h : lo + len ≤ 32) (v : Nat) : fieldNat (place lo len v) lo len = v % 2 ^ len := by
  rw [fieldNat, extract_place_same h, BitVec.toNat_ofNat]

theorem fieldNat_place_disjoint {lo len x n : Nat} (h : lo + len ≤ x ∨ x + n ≤ lo) (v : Nat) :
    fieldNat (place lo len v) x n = 0 := by
  rw [fieldNat, extract_place_disjoint h]
  simp

theorem fieldNat_lt (w : Word) (lo len : Nat) : fieldNat w lo len < 2 ^ len := (w.extractLsb' lo len).isLt

theorem testBit_fieldNat (w : Word) (lo len k : Nat) :
    (fieldNat w lo len).testBit k = (decide (k < len) && w.getLsbD (lo + k)) := by
  rw [fieldNat, BitVec.testBit_toNat, BitVec.getLsbD_extractLsb']

/-- A word is its four bytes. -/
theorem word_of_bytes (w : Word) : place 0 8 (fieldNat w 0 8) ||| place 8 8 (fieldNat w 8 8) ||| place 16 8 (fieldNat w 16 8)
    ||| place 24 8 (fieldNat w 24 8) = w := by
  refine BitVec.eq_of_getLsbD_eq fun k hk => ?_
  simp only [BitVec.getLsbD_or, getLsbD_place, testBit_fieldNat, decide_eq_true hk, Bool.true_and]
  have hcases : k < 8 ∨ (8 ≤ k ∧ k < 16) ∨ (16 ≤ k ∧ k < 24) ∨ 24 ≤ k := by omega
  rcases hcases with h | ⟨h1, h2⟩ | ⟨h1, h2⟩ | h
  · have : ¬ 8 ≤ k ∧ ¬ 16 ≤ k ∧ ¬ 24 ≤ k := by omega
    simp [h, this]
  · have : ¬ k < 8 ∧ ¬ 16 ≤ k ∧ ¬ 24 ≤ k ∧ k - 8 < 8 ∧ 8 + (k - 8) = k := by omega
    simp [h1, this]
  · have : ¬ k < 8 ∧ ¬ k - 8 < 8 ∧ ¬ 24 ≤ k ∧ k - 16 < 8 ∧ 16 + (k - 16) = k := by omega
    simp [h1, this]
  · have : ¬ k < 8 ∧ ¬ k - 8 < 8 ∧ ¬ k - 16 < 8 ∧ k - 24 < 8 ∧ 24 + (k - 24) = k := by omega
    simp [h, this]

theorem getLsbD_placeBit {lo : Nat} (h : lo < 32) (v : Bool) (k : Nat) :
    (placeBit lo v).getLsbD k = (decide (k = lo) && v) := by
  rw [placeBit, getLsbD_place]
  by_cases hk : k = lo
  · subst hk
    cases v <;> simp [h]
  · by_cases hle : lo ≤ k
    · have : ¬ k - lo < 1 := by omega
      simp [hk, this]
    · simp [hk, hle]

/-! ### Operands -/

theorem lineOfField_eq_some {v : Nat} {l : Line} : lineOfField v = some l ↔ v = if l = .a then 1 else 2 := by
  unfold lineOfField
  cases l <;> split_ifs <;> simp_all

theorem listenOfField_eq_some {v : Nat} {n : ListenNo} : listenOfField v = some n ↔ v = n.val := by
  unfold listenOfField
  split
  · simp [Fin.ext_iff]
  · have := n.isLt
    simp
    omega

theorem within_iff {lo hi v : Nat} : within lo hi v = true ↔ lo ≤ v ∧ v ≤ hi := by simp [within]

theorem openOperands_iff {p : Vector Word 6} {k : Key} {ps : Params} : openOperands p = some (k, ps) ↔
    lineOfField (fieldNat p[0] 0 2) = some k.line ∧ fieldNat p[0] 8 8 = k.station.toNat ∧ fieldNat p[0] 16 8 = k.an.toNat ∧
    1 ≤ k.station.toNat ∧ k.station.toNat ≤ 62 ∧ ps.inRange = true ∧
    ps = { inboundLimit := fieldNat p[1] 0 8, window := fieldNat p[1] 8 8, sendQueueLimit := fieldNat p[1] 16 8,
           inboundQuota := fieldNat p[1] 24 8, resendPeriod := fieldNat p[2] 0 8, retryLimit := fieldNat p[2] 8 8,
           receiptDelay := fieldNat p[2] 16 8 } := by
  obtain ⟨line, station, an⟩ := k
  unfold openOperands
  dsimp only
  constructor
  · intro h
    split at h
    · cases h
    · rename_i l hl
      split at h
      · rename_i hc
        simp only [Bool.and_eq_true, within_iff] at hc
        obtain ⟨⟨⟨hlo, hhi⟩, -, han⟩, hps⟩ := hc
        cases h
        have hstation : fieldNat p[0] 8 8 % 2 ^ 6 = fieldNat p[0] 8 8 := Nat.mod_eq_of_lt (by omega)
        have hanmod : fieldNat p[0] 16 8 % 2 ^ 4 = fieldNat p[0] 16 8 := Nat.mod_eq_of_lt (by omega)
        simp only [BitVec.toNat_ofNat, hstation, hanmod]
        exact ⟨hl, trivial, trivial, hlo, hhi, hps, trivial⟩
      · cases h
  · rintro ⟨hl, hstation, han, hlo, hhi, hps, rfl⟩
    rw [hl]
    dsimp only
    rw [if_pos]
    · rw [hstation, han, BitVec.ofNat_toNat, BitVec.ofNat_toNat, BitVec.setWidth_eq, BitVec.setWidth_eq]
    · have := an.isLt
      simp only [Bool.and_eq_true, within_iff, hps, and_true]
      omega

theorem groupOperands_iff {p : Vector Word 6} {l : Line} {value mask : Station} :
    groupOperands p = some (l, value, mask) ↔
      lineOfField (fieldNat p[0] 0 2) = some l ∧ fieldNat p[0] 8 8 = value.toNat ∧ fieldNat p[0] 16 8 = mask.toNat := by
  unfold groupOperands
  constructor
  · intro h
    split at h
    · cases h
    · rename_i l hl
      split at h
      · rename_i hc
        simp only [Bool.and_eq_true, within_iff] at hc
        cases h
        have hvalue : fieldNat p[0] 8 8 % 2 ^ 6 = fieldNat p[0] 8 8 := Nat.mod_eq_of_lt (by omega)
        have hmask : fieldNat p[0] 16 8 % 2 ^ 6 = fieldNat p[0] 16 8 := Nat.mod_eq_of_lt (by omega)
        simp only [BitVec.toNat_ofNat, hvalue, hmask]
        exact ⟨hl, trivial, trivial⟩
      · cases h
  · rintro ⟨hl, hvalue, hmask⟩
    rw [hl]
    dsimp only
    rw [if_pos]
    · rw [hvalue, hmask, BitVec.ofNat_toNat, BitVec.ofNat_toNat, BitVec.setWidth_eq, BitVec.setWidth_eq]
    · have := value.isLt
      have := mask.isLt
      simp only [Bool.and_eq_true, within_iff]
      omega

theorem listenOperands_iff {p : Vector Word 6} {n : ListenNo} {e : ListenEntry} : listenOperands p = some (n, e) ↔
    listenOfField (fieldNat p[0] 0 8) = some n ∧ lineOfField (fieldNat p[0] 12 2) = some e.line ∧
    fieldNat p[1] 0 8 = e.stationValue.toNat ∧ fieldNat p[1] 8 8 = e.stationMask.toNat ∧
    fieldNat p[1] 16 8 = e.anValue.toNat ∧ fieldNat p[1] 24 8 = e.anMask.toNat ∧
    e.admissionLimit ≤ 63 ∧ e.params.inRange = true ∧ 1 ≤ e.offerTimeout ∧
    e = { e with
      enabled := p[0].getLsbD 8, mode := if p[0].getLsbD 9 then .ask else .auto, admissionLimit := fieldNat p[2] 0 8,
      admitted := 0, offerTimeout := fieldNat p[0] 24 8,
      params := { inboundLimit := fieldNat p[2] 8 8, window := fieldNat p[2] 16 8, sendQueueLimit := fieldNat p[2] 24 8,
                  inboundQuota := fieldNat p[3] 0 8, resendPeriod := fieldNat p[3] 8 8, retryLimit := fieldNat p[3] 16 8,
                  receiptDelay := fieldNat p[3] 24 8 } } := by
  unfold listenOperands
  dsimp only
  constructor
  · intro h
    split at h
    · rename_i n l hn hl
      split at h
      · rename_i hc
        simp only [Bool.and_eq_true, within_iff] at hc
        obtain ⟨⟨⟨⟨⟨⟨hsv, hsm⟩, hav⟩, ham⟩, hlim⟩, hps⟩, hoffer⟩ := hc
        cases h
        have hsv' : fieldNat p[1] 0 8 % 2 ^ 6 = fieldNat p[1] 0 8 := Nat.mod_eq_of_lt (by omega)
        have hsm' : fieldNat p[1] 8 8 % 2 ^ 6 = fieldNat p[1] 8 8 := Nat.mod_eq_of_lt (by omega)
        have hav' : fieldNat p[1] 16 8 % 2 ^ 4 = fieldNat p[1] 16 8 := Nat.mod_eq_of_lt (by omega)
        have ham' : fieldNat p[1] 24 8 % 2 ^ 4 = fieldNat p[1] 24 8 := Nat.mod_eq_of_lt (by omega)
        simp only [BitVec.toNat_ofNat, hsv', hsm', hav', ham']
        exact ⟨hn, hl, trivial, trivial, trivial, trivial, hlim.2, hps, hoffer.1, trivial⟩
      · cases h
    · cases h
  · rintro ⟨hn, hl, hsv, hsm, hav, ham, hlim, hps, hoffer, he⟩
    rw [hn, hl]
    dsimp only
    have hlimit : e.admissionLimit = fieldNat p[2] 0 8 := congrArg ListenEntry.admissionLimit he
    have htimeout : e.offerTimeout = fieldNat p[0] 24 8 := congrArg ListenEntry.offerTimeout he
    have hparams := congrArg ListenEntry.params he
    rw [if_pos]
    · rw [hsv, hsm, hav, ham, BitVec.ofNat_toNat, BitVec.ofNat_toNat, BitVec.ofNat_toNat, BitVec.ofNat_toNat,
        BitVec.setWidth_eq, BitVec.setWidth_eq, BitVec.setWidth_eq, BitVec.setWidth_eq]
      exact congrArg some (congrArg (Prod.mk n) he.symm)
    · rw [hparams] at hps
      have := fieldNat_lt p[0] 24 8
      have := e.stationValue.isLt
      have := e.stationMask.isLt
      have := e.anValue.isLt
      have := e.anMask.isLt
      simp only [Bool.and_eq_true, within_iff]
      refine ⟨⟨⟨⟨⟨⟨?_, ?_⟩, ?_⟩, ?_⟩, ?_⟩, hps⟩, ?_⟩ <;> omega

/-! ### Result words -/

/-- The first word of a listen entry, field by field (R189). -/
theorem listenWords_zero (e : ListenEntry) {n : Nat} (hk : n ≤ 64) (ht : e.offerTimeout < 256) :
    fieldNat (listenWords { e with admitted := n })[0] 16 8 = n ∧
    (listenWords { e with admitted := n })[0].getLsbD 8 = e.enabled ∧
    ((listenWords { e with admitted := n })[0].getLsbD 9 = true ↔ e.mode = .ask) ∧
    fieldNat (listenWords { e with admitted := n })[0] 12 2 = (if e.line = .a then 1 else 2) ∧
    fieldNat (listenWords { e with admitted := n })[0] 24 8 = e.offerTimeout := by
  have hword : (listenWords { e with admitted := n })[0] = placeBit 8 e.enabled ||| placeBit 9 (modeBit e.mode)
      ||| place 12 2 (lineField e.line) ||| place 16 8 n ||| place 24 8 e.offerTimeout := rfl
  have henabled := getLsbD_placeBit (lo := 8) (by decide) e.enabled
  have hmode := getLsbD_placeBit (lo := 9) (by decide) (modeBit e.mode)
  rw [hword]
  refine ⟨?_, ?_, ?_, ?_, ?_⟩
  · simp [fieldNat_or, placeBit, fieldNat_place_same, fieldNat_place_disjoint]
    omega
  · simp only [BitVec.getLsbD_or, henabled, hmode, getLsbD_place]
    simp
  · simp only [BitVec.getLsbD_or, henabled, hmode, getLsbD_place]
    cases e.mode <;> simp [modeBit]
  · simp [fieldNat_or, placeBit, fieldNat_place_same, fieldNat_place_disjoint]
    cases e.line <;> simp [lineField]
  · simp [fieldNat_or, placeBit, fieldNat_place_same, fieldNat_place_disjoint]
    omega

theorem mode_eq_iff {b : Bool} {m : ListenMode} : (m = if b then .ask else .auto) ↔ (b = true ↔ m = .ask) := by
  cases b <;> cases m <;> simp

/-- Settles O48: the operands' fields, and the words of an entry that was set from words. -/
theorem operandsAreTheFieldsOfTheWords : Obligations.OperandsAreTheFieldsOfTheWords := by
  intro p
  refine ⟨fun k ps => ?_, fun l value mask => ?_, fun n e => ?_, fun n e h k hk => ?_⟩
  · rw [openOperands_iff, lineOfField_eq_some]
    obtain ⟨limit, window, queue, quota, resend, retry, delay⟩ := ps
    simp only [Params.mk.injEq]
    constructor
    · rintro ⟨hl, hstation, han, hlo, hhi, hin, rfl, rfl, rfl, rfl, rfl, rfl, rfl⟩
      exact ⟨hl, hstation, han, rfl, rfl, rfl, rfl, rfl, rfl, rfl, hlo, hhi, hin⟩
    · rintro ⟨hl, hstation, han, rfl, rfl, rfl, rfl, rfl, rfl, rfl, hlo, hhi, hin⟩
      exact ⟨hl, hstation, han, hlo, hhi, hin, rfl, rfl, rfl, rfl, rfl, rfl, rfl⟩
  · rw [groupOperands_iff, lineOfField_eq_some]
  · rw [listenOperands_iff, listenOfField_eq_some, lineOfField_eq_some]
    obtain ⟨enabled, mode, line, sv, sm, av, am, limit, admitted, ⟨il, w, q, iq, rp, rl, rd⟩, timeout⟩ := e
    simp only [ListenEntry.mk.injEq, Params.mk.injEq, mode_eq_iff, true_and]
    constructor
    · rintro ⟨hn, hl, hsv, hsm, hav, ham, hle, hin, hpos, rfl, hm, rfl, rfl, ⟨rfl, rfl, rfl, rfl, rfl, rfl, rfl⟩, rfl⟩
      exact ⟨hn, rfl, hm, hl, rfl, hpos, hsv, hsm, hav, ham, rfl, hle, rfl, rfl, rfl, rfl, rfl, rfl, rfl, hin, rfl⟩
    · rintro ⟨hn, rfl, hm, hl, rfl, hpos, hsv, hsm, hav, ham, rfl, hle, rfl, rfl, rfl, rfl, rfl, rfl, rfl, hin, rfl⟩
      exact ⟨hn, hl, hsv, hsm, hav, ham, hle, hin, hpos, rfl, hm, rfl, rfl, ⟨rfl, rfl, rfl, rfl, rfl, rfl, rfl⟩, rfl⟩
  · obtain ⟨-, -, hsv, hsm, hav, ham, -, -, -, he⟩ := listenOperands_iff.1 h
    have hlimit : e.admissionLimit = fieldNat p[2] 0 8 := congrArg ListenEntry.admissionLimit he
    have htimeout : e.offerTimeout = fieldNat p[0] 24 8 := congrArg ListenEntry.offerTimeout he
    have hparams := congrArg ListenEntry.params he
    obtain ⟨h0, h1, h2, h3, h4⟩ := listenWords_zero e hk (htimeout ▸ fieldNat_lt p[0] 24 8)
    refine ⟨?_, ?_, ?_, h0, h1, h2, h3, h4⟩
    · rw [← word_of_bytes p[1], hsv, hsm, hav, ham]
      rfl
    · rw [← word_of_bytes p[2], ← hlimit]
      simp only [listenWords]
      rw [hparams]
      rfl
    · rw [← word_of_bytes p[3]]
      simp only [listenWords]
      rw [hparams]
      rfl

end Sys2Proof.Machine
end

section
/-! ALLOCATE, FREE, QUERY, SET-LISTEN and GET-LISTEN (R25, R63, R64, R127, R128), and the numbers of the mailbox words (R189). -/

namespace Sys2Proof.Machine

variable {s : State} {p : Vector Word 6} {a : Assoc}

/-! ### Rows -/

theorem exec_allocate_of_short (h : s.latches codeAllocate p) (hshort : s.pool.freeList.length ≤ s.pool.reserved) :
    exec .cmdAllocate s = .next (s.complete .noBuffer) := by
  show execCmdAllocate s = _
  rw [execCmdAllocate, latched_completes h]
  cases hfree : s.pool.freeList with
  | nil => rfl
  | cons b rest =>
    rw [hfree] at hshort
    exact congrArg _ (if_pos hshort)

theorem exec_allocate_of_room {b : BufferNo} {rest : List BufferNo} (h : s.latches codeAllocate p)
    (hfree : s.pool.freeList = b :: rest) (hroom : s.pool.reserved < s.pool.freeList.length) : exec .cmdAllocate s =
      .next ((s.setPool { s.pool.setState b .host with freeList := rest }).completeOk (oneResult (place 0 8 b.val))) := by
  show execCmdAllocate s = _
  rw [execCmdAllocate, latched_completes h, hfree]
  rw [hfree] at hroom
  exact congrArg _ (if_neg (Nat.not_le.2 hroom))

theorem exec_free_of_none (h : s.latches codeFree p) (hb : bufferOfField (fieldNat p[0] 0 8) = none) :
    exec .cmdFree s = .next (s.complete .badParameter) := by
  show execCmdFree s = _
  rw [execCmdFree, latched_completes h, hb]

theorem exec_free_of_some {b : BufferNo} (h : s.latches codeFree p) (hb : bufferOfField (fieldNat p[0] 0 8) = some b) :
    exec .cmdFree s = .next (if s.bufferStateAt b ≠ .host then s.complete .notOwner
      else ((Claim.begin s).returnBuffer b).finish.completeOk noResults) := by
  show execCmdFree s = _
  rw [execCmdFree, latched_completes h, hb]

theorem slotOfField_eq_some {n : Nat} {i : Slot} (h : n = i.val) : slotOfField n = some i := by
  subst h
  simp [slotOfField]

theorem slotOfField_eq_none {n : Nat} (h : 64 ≤ n) : slotOfField n = none := by
  simp [slotOfField, h]

theorem exec_query_of_none (h : s.latches codeQuery p) (hi : slotOfField (fieldNat p[0] 0 8) = none) :
    exec .cmdQuery s = .next (s.complete .badParameter) := by
  show execCmdQuery s = _
  rw [execCmdQuery, latched_completes h, hi]

theorem exec_query_of_some {i : Slot} (h : s.latches codeQuery p) (hi : slotOfField (fieldNat p[0] 0 8) = some i) :
    exec .cmdQuery s = .next (s.completeOk (queryWords (s.slotRec i))) := by
  show execCmdQuery s = _
  rw [execCmdQuery, latched_completes h, hi]

theorem exec_setListen_of_none (h : s.latches codeSetListen p) (hp : listenOperands p = none) :
    exec .cmdSetListen s = .next (s.complete .badParameter) := by
  show execCmdSetListen s = _
  rw [execCmdSetListen, latched_completes h, hp]

theorem exec_setListen_of_some {n : ListenNo} {e : ListenEntry} (h : s.latches codeSetListen p)
    (hp : listenOperands p = some (n, e)) : exec .cmdSetListen s =
      .next ((s.setListen n { e with admitted := (s.listenAt n).admitted }).completeOk noResults) := by
  show execCmdSetListen s = _
  rw [execCmdSetListen, latched_completes h, hp]

theorem listenOfField_eq_none {n : Nat} (h : 8 ≤ n) : listenOfField n = none := by
  simp [listenOfField, h]

theorem exec_getListen_of_none (h : s.latches codeGetListen p) (hn : listenOfField (fieldNat p[0] 0 8) = none) :
    exec .cmdGetListen s = .next (s.complete .badParameter) := by
  show execCmdGetListen s = _
  rw [execCmdGetListen, latched_completes h, hn]

theorem exec_getListen_of_some {n : ListenNo} (h : s.latches codeGetListen p)
    (hn : listenOfField (fieldNat p[0] 0 8) = some n) :
    exec .cmdGetListen s = .next (s.completeOk (listenWords (s.listenAt n))) := by
  show execCmdGetListen s = _
  rw [execCmdGetListen, latched_completes h, hn]

/-! ### The words of QUERY -/

theorem stateNumber_stateField (a : Assoc) : stateNumber a.state (stateField (some a)) := by
  unfold stateNumber stateField
  cases h : a.state <;> simp [h]

theorem endFields_mem (cause : EndCause) :
    (cause, (endFields (.ended cause)).1, (endFields (.ended cause)).2) ∈ endNumbers := by
  cases cause with
  | refused r => cases r <;> decide
  | protocol d => cases d <;> decide
  | _ => decide

theorem endFields_of_live {st : AssocState} (h : st.isLive = true) : endFields st = (0, 0) := by
  cases st <;> simp_all [AssocState.isLive, endFields]

theorem endFields_lt (st : AssocState) : (endFields st).1 < 16 ∧ (endFields st).2 < 256 := by
  cases st with
  | ended cause =>
    cases cause with
    | refused r => cases r <;> decide
    | protocol d => cases d <;> decide
    | _ => decide
  | _ => decide

theorem stateField_lt (a : Assoc) : stateField (some a) < 8 := by
  unfold stateField
  cases h : a.state <;> simp [h]

theorem lineField_eq (l : Line) : lineField l = if l = .a then 1 else 2 := by cases l <;> rfl

theorem originField_lt (o : Origin) : originField o < 16 := by
  cases o with
  | host => decide
  | listen n => simp only [originField]; omega

/-- The first word of QUERY for an occupied slot. -/
theorem queryWord_zero (g : BitVec 16) (a : Assoc) :
    (queryWords { generation := g, assoc := some a })[0].extractLsb' 0 16 = g ∧
    fieldNat (queryWords { generation := g, assoc := some a })[0] 16 3 = stateField (some a) ∧
    fieldNat (queryWords { generation := g, assoc := some a })[0] 20 2 = lineField a.key.line ∧
    fieldNat (queryWords { generation := g, assoc := some a })[0] 24 4 = originField a.origin ∧
    fieldNat (queryWords { generation := g, assoc := some a })[0] 28 4 = (endFields a.state).1 := by
  have hword : (queryWords { generation := g, assoc := some a })[0] = place 0 16 g.toNat
    ||| place 16 3 (stateField (some a)) ||| place 20 2 (lineField a.key.line) ||| place 24 4 (originField a.origin)
    ||| place 28 4 (endFields a.state).1 := rfl
  have hstate := stateField_lt a
  have horigin := originField_lt a.origin
  have hend := (endFields_lt a.state).1
  have hline : lineField a.key.line < 4 := by cases a.key.line <;> decide
  rw [hword]
  refine ⟨?_, ?_, ?_, ?_, ?_⟩
  · simp [BitVec.extractLsb'_or, extract_place_same, extract_place_disjoint]
  all_goals
    simp [fieldNat_or, fieldNat_place_same, fieldNat_place_disjoint]
    omega

theorem queryWord_one (g : BitVec 16) (a : Assoc) :
    fieldNat (queryWords { generation := g, assoc := some a })[1] 0 8 = a.key.station.toNat ∧
    fieldNat (queryWords { generation := g, assoc := some a })[1] 8 4 = a.key.an.toNat ∧
    (queryWords { generation := g, assoc := some a })[1].extractLsb' 16 8 = a.epoch ∧
    fieldNat (queryWords { generation := g, assoc := some a })[1] 24 8 = (endFields a.state).2 := by
  have hword : (queryWords { generation := g, assoc := some a })[1] = place 0 8 a.key.station.toNat
    ||| place 8 4 a.key.an.toNat ||| place 16 8 a.epoch.toNat ||| place 24 8 (endFields a.state).2 := rfl
  have hend := (endFields_lt a.state).2
  have hstation := a.key.station.isLt
  have han := a.key.an.isLt
  rw [hword]
  refine ⟨?_, ?_, ?_, ?_⟩
  · simp [fieldNat_or, fieldNat_place_same, fieldNat_place_disjoint]
    omega
  · simp [fieldNat_or, fieldNat_place_same, fieldNat_place_disjoint]
    omega
  · simp [BitVec.extractLsb'_or, extract_place_same, extract_place_disjoint]
  · simp [fieldNat_or, fieldNat_place_same, fieldNat_place_disjoint]
    omega

theorem queryWord_two (g : BitVec 16) (a : Assoc) :
    (a.sendQueue.length ≤ 32 →
      fieldNat (queryWords { generation := g, assoc := some a })[2] 0 6 = a.sendQueue.length) ∧
    (a.inboundQueue.length ≤ 15 →
      fieldNat (queryWords { generation := g, assoc := some a })[2] 8 4 = a.inboundQueue.length) ∧
    (a.grant ≤ 15 → fieldNat (queryWords { generation := g, assoc := some a })[2] 12 4 = a.grant) ∧
    (queryWords { generation := g, assoc := some a })[2].extractLsb' 16 8 = a.sendBase ∧
    (queryWords { generation := g, assoc := some a })[2].extractLsb' 24 8 = a.nextToSend := by
  have hword : (queryWords { generation := g, assoc := some a })[2] = place 0 6 a.sendQueue.length
    ||| place 8 4 a.inboundQueue.length ||| place 12 4 a.grant ||| place 16 8 a.sendBase.toNat
    ||| place 24 8 a.nextToSend.toNat := rfl
  rw [hword]
  refine ⟨fun h => ?_, fun h => ?_, fun h => ?_, ?_, ?_⟩
  · simp [fieldNat_or, fieldNat_place_same, fieldNat_place_disjoint]
    omega
  · simp [fieldNat_or, fieldNat_place_same, fieldNat_place_disjoint]
    omega
  · simp [fieldNat_or, fieldNat_place_same, fieldNat_place_disjoint]
    omega
  · simp [BitVec.extractLsb'_or, extract_place_same, extract_place_disjoint]
  · simp [BitVec.extractLsb'_or, extract_place_same, extract_place_disjoint]

theorem queryWord_three (g : BitVec 16) (a : Assoc) :
    (queryWords { generation := g, assoc := some a })[3].extractLsb' 0 8 = a.expected ∧
    (queryWords { generation := g, assoc := some a })[3].extractLsb' 8 8 = a.peerLimit ∧
    (a.retryCount ≤ 16 → fieldNat (queryWords { generation := g, assoc := some a })[3] 16 5 = a.retryCount) ∧
    (a.abandoned ≤ 32 → fieldNat (queryWords { generation := g, assoc := some a })[3] 24 6 = a.abandoned) ∧
    (queryWords { generation := g, assoc := some a })[3].getLsbD 31 = a.hold := by
  have hword : (queryWords { generation := g, assoc := some a })[3] = place 0 8 a.expected.toNat
    ||| place 8 8 a.peerLimit.toNat ||| place 16 5 a.retryCount ||| place 24 6 a.abandoned ||| placeBit 31 a.hold := rfl
  have hhold := getLsbD_placeBit (lo := 31) (by decide) a.hold
  rw [hword]
  refine ⟨?_, ?_, fun h => ?_, fun h => ?_, ?_⟩
  · simp [BitVec.extractLsb'_or, placeBit, extract_place_same, extract_place_disjoint]
  · simp [BitVec.extractLsb'_or, placeBit, extract_place_same, extract_place_disjoint]
  · simp [fieldNat_or, placeBit, fieldNat_place_same, fieldNat_place_disjoint]
    omega
  · simp [fieldNat_or, placeBit, fieldNat_place_same, fieldNat_place_disjoint]
    omega
  · simp only [BitVec.getLsbD_or, hhold, getLsbD_place]
    simp

theorem queryWords_of_free (g : BitVec 16) :
    (queryWords { generation := g, assoc := none })[0].extractLsb' 0 16 = g ∧
    fieldNat (queryWords { generation := g, assoc := none })[0] 16 16 = 0 ∧
    (queryWords { generation := g, assoc := none })[1] = 0 ∧ (queryWords { generation := g, assoc := none })[2] = 0 ∧
    (queryWords { generation := g, assoc := none })[3] = 0 := by
  have hword : (queryWords { generation := g, assoc := none })[0] = place 0 16 g.toNat := rfl
  rw [hword, extract_place_same (by decide), fieldNat_place_disjoint (by decide)]
  exact ⟨by simp, rfl, rfl, rfl, rfl⟩

theorem slotRec_eq (s : State) (i : Slot) : s.slotRec i = { generation := s.generation i, assoc := s.assocAt i } := rfl

/-! ### Obligation -/

theorem completionField_mem (x : Option Completion) : (x, completionField x) ∈ completionNumbers := by
  cases x with
  | none => decide
  | some c => cases c <;> decide

theorem completionField_lt (x : Option Completion) : completionField x < 256 := by
  cases x with
  | none => decide
  | some c => cases c <;> decide

theorem busy_iff (s : State) : s.busy = true ↔ s.mailbox.latched ≠ none := by
  simp [State.busy, Option.isSome_iff_ne_none]

theorem mailboxStatus_completion (s : State) :
    fieldNat (s.readReg .mailboxStatus) 8 8 = completionField s.mailbox.completion := by
  have := completionField_lt s.mailbox.completion
  simp [State.readReg, fieldNat_or, placeBit, fieldNat_place_same, fieldNat_place_disjoint]
  omega

theorem mailboxStatus_busy (s : State) : (s.readReg .mailboxStatus).getLsbD 0 = s.busy := by
  have hbusy := getLsbD_placeBit (lo := 0) (by decide) s.busy
  simp only [State.readReg, BitVec.getLsbD_or, hbusy, getLsbD_place]
  simp

/-- Settles O55: each row by its operand, and the fields of the words. -/
theorem bufferAndTableCommands : Obligations.BufferAndTableCommands := by
  intro s p
  refine ⟨fun h => ⟨exec_allocate_of_short h, fun b rest hfree hroom => ?_⟩,
    fun h => ⟨fun hb => exec_free_of_none h (bufferOfField_eq_none hb), fun b hb => ⟨fun howner => ?_, fun howner => ?_⟩⟩,
    fun h => ⟨fun hi => exec_query_of_none h (slotOfField_eq_none hi), fun i hi => ?_⟩,
    fun h => ⟨exec_setListen_of_none h, fun n e hp => exec_setListen_of_some h hp⟩,
    fun h => ⟨fun hn => exec_getListen_of_none h (listenOfField_eq_none hn),
      fun n hn => exec_getListen_of_some h (listenOfField_eq_some.2 hn)⟩, ?_, ?_⟩
  · rw [exec_allocate_of_room h hfree hroom, place_zero (show b.val < 2 ^ 8 by omega)]
    rfl
  · rw [exec_free_of_some h (bufferOfField_eq_some hb), if_pos howner]
  · rw [exec_free_of_some h (bufferOfField_eq_some hb), if_neg (by simp [howner]), finish_of_trigger rfl rfl]
    rfl
  · have hexec := exec_query_of_some h (slotOfField_eq_some hi)
    rw [slotRec_eq] at hexec
    generalize s.generation i = g at hexec
    generalize s.assocAt i = x at hexec
    generalize hq : queryWords { generation := g, assoc := x } = q at hexec
    refine ⟨q, hexec, ?_⟩
    cases x with
    | none =>
      obtain ⟨hg, hzero⟩ := queryWords_of_free g
      rw [hq] at hg hzero
      exact ⟨hg, fun _ => hzero, fun _ hb => absurd hb.symm (Option.some_ne_none _)⟩
    | some a =>
      obtain ⟨hg, hstate, hline, horigin, hcause⟩ := queryWord_zero g a
      obtain ⟨hstation, han, hepoch, hdetail⟩ := queryWord_one g a
      obtain ⟨hsend, hinbound, hgrant, hbase, hnext⟩ := queryWord_two g a
      obtain ⟨hexpected, hpeer, hretry, habandoned, hhold⟩ := queryWord_three g a
      rw [hq] at hg hstate hline horigin hcause hstation han hepoch hdetail hsend hinbound hgrant hbase hnext
      rw [hq] at hexpected hpeer hretry habandoned hhold
      refine ⟨hg, fun hnone => absurd hnone (Option.some_ne_none _), fun b hb => ?_⟩
      cases hb
      refine ⟨?_, ?_, fun ho => ?_, fun n ho => ?_, fun hl => ?_, fun cause hst => ?_, hstation, han, hepoch, hsend,
        hinbound, hgrant, hbase, hnext, hexpected, hpeer, hretry, habandoned, hhold⟩
      · rw [hstate]
        exact stateNumber_stateField a
      · rw [hline, lineField_eq]
      · rw [horigin, ho]
        rfl
      · rw [horigin, ho]
        rfl
      · rw [hcause, hdetail, endFields_of_live hl]
        exact ⟨rfl, rfl⟩
      · rw [hcause, hdetail, hst]
        exact endFields_mem cause
  · rw [mailboxStatus_completion]
    exact completionField_mem _
  · rw [mailboxStatus_busy, busy_iff]

end Sys2Proof.Machine
end

section
/-! Byte lanes: what a mask, a merge and the four bytes of a word are (R187). -/

namespace Sys2Proof.Machine

/-- The mask covers exactly the selected lanes. -/
theorem extract_laneMask (lanes : BitVec 4) {j : Nat} (hj : j < 4) :
    (laneMask lanes).extractLsb' (8 * j) 8 = if lanes.getLsbD j then 0xFF else 0 := by
  have hall : ∀ a b c d : Bool, ∀ j : Fin 4,
      ((if d then (0xFF000000 : Word) else 0) ||| (if c then 0x00FF0000 else 0) ||| (if b then 0x0000FF00 else 0)
        ||| (if a then 0x000000FF else 0)).extractLsb' (8 * j.val) 8 =
        if (match j with | 0 => a | 1 => b | 2 => c | 3 => d) then (0xFF : Byte) else 0 := by decide
  have h := hall (lanes.getLsbD 0) (lanes.getLsbD 1) (lanes.getLsbD 2) (lanes.getLsbD 3) ⟨j, hj⟩
  rw [laneMask]
  refine h.trans ?_
  have hcases : j = 0 ∨ j = 1 ∨ j = 2 ∨ j = 3 := by omega
  rcases hcases with rfl | rfl | rfl | rfl <;> rfl

theorem extract_masked (w : Word) (lanes : BitVec 4) {j : Nat} (hj : j < 4) :
    (w &&& laneMask lanes).extractLsb' (8 * j) 8 = if lanes.getLsbD j then w.extractLsb' (8 * j) 8 else 0 := by
  rw [BitVec.extractLsb'_and, extract_laneMask lanes hj]
  split
  · exact BitVec.and_allOnes
  · exact BitVec.and_zero

theorem merges_mergeLanes (old v : Word) (lanes : BitVec 4) : merges (mergeLanes old v lanes) old v lanes := by
  intro j hj
  have hnot : (~~~ laneMask lanes).extractLsb' (8 * j) 8 = ~~~ (laneMask lanes).extractLsb' (8 * j) 8 := by
    refine BitVec.eq_of_getLsbD_eq fun k hk => ?_
    rw [BitVec.getLsbD_extractLsb', BitVec.getLsbD_not, BitVec.getLsbD_not, BitVec.getLsbD_extractLsb']
    have : 8 * j + k < 32 := by omega
    simp [hk, this]
  rw [mergeLanes, BitVec.extractLsb'_or, BitVec.extractLsb'_and, BitVec.extractLsb'_and, hnot, extract_laneMask lanes hj]
  cases lanes.getLsbD j <;> simp <;> exact BitVec.and_allOnes

/-- Two words with the same bytes are the same. -/
theorem word_ext {w v : Word} (h : ∀ j, j < 4 → w.extractLsb' (8 * j) 8 = v.extractLsb' (8 * j) 8) : w = v := by
  rw [← word_of_bytes w, ← word_of_bytes v]
  have hbyte {j : Nat} (hj : j < 4) : fieldNat w (8 * j) 8 = fieldNat v (8 * j) 8 := congrArg BitVec.toNat (h j hj)
  rw [show fieldNat w 0 8 = fieldNat v 0 8 from hbyte (j := 0) (by decide),
    show fieldNat w 8 8 = fieldNat v 8 8 from hbyte (j := 1) (by decide),
    show fieldNat w 16 8 = fieldNat v 16 8 from hbyte (j := 2) (by decide),
    show fieldNat w 24 8 = fieldNat v 24 8 from hbyte (j := 3) (by decide)]

/-- The merged word is the only one with the bytes that R187 asks for. -/
theorem eq_mergeLanes {w old v : Word} {lanes : BitVec 4} (h : merges w old v lanes) : w = mergeLanes old v lanes :=
  word_ext fun j hj => (h j hj).trans (merges_mergeLanes old v lanes j hj).symm

end Sys2Proof.Machine
end

section
/-! The attention unit (R181, R182, R185, R190). -/

namespace Sys2Proof.Machine

variable {s : State} {i : Slot} {a : Assoc}

/-! ### Joining and leaving the list -/

theorem raiseSlot_eq (ha : s.assocAt i = some a) (r : SlotReason) : s.raiseSlot i r =
    (s.setAssoc i { a with reasons := a.reasons.raise r }).setAttention
      (if a.reasons = .empty then s.attention.join (.slot i) else s.attention) := by
  unfold State.raiseSlot
  rw [ha]
  by_cases he : a.reasons = .empty <;> simp only [SlotReasons.isEmpty, he, decide_true, decide_false, if_true, if_false] <;> rfl

theorem raiseLine_eq (s : State) (l : Line) (r : LineReason) : s.raiseLine l r =
    (s.setLine l { s.line l with reasons := (s.line l).reasons.raise r }).setAttention
      (if (s.line l).reasons = .empty then s.attention.join (.line l) else s.attention) := by
  unfold State.raiseLine
  by_cases he : (s.line l).reasons = .empty
  · simp only [LineReasons.isEmpty, he, decide_true, if_true, setLine_attention]
  · simp only [LineReasons.isEmpty, he, decide_false, if_false]
    cases l <;> rfl

theorem join_eq (t : Attention) (src : Source) : t.join src = if t.list ≠ [] then { t with list := t.list ++ [src] }
    else { t with
      list := [src], indicator := decide (t.holdoff = 0),
      holdoffTimer := if t.holdoff = 0 then .stopped else .counting t.holdoff } := by
  unfold Attention.join
  by_cases hl : t.list = [] <;> by_cases hh : t.holdoff = 0 <;> simp [hl, hh]

/-- The list without its head (R182, R185). -/
theorem shorten_of_cons {t : Attention} {src : Source} {rest : List Source} (h : t.list = src :: rest) : t.shorten rest =
    { t with
      list := rest, holdoffTimer := if rest = [] then .stopped else t.holdoffTimer,
      indicator := t.indicator && decide (rest ≠ []) } := by
  unfold Attention.shorten
  cases rest <;> simp [h]

/-! ### The port -/

theorem exec_attentionPortRead (h : s.resetAsserted = false) (lanes : BitVec 4) : exec (.attentionPortRead lanes) s =
    .next { (if lanes.getLsbD 0 then s.takeNotice else s) with
      dataOut := noticeWord (if lanes.getLsbD 0 then s.takeNotice else s).attention.holding &&& laneMask lanes } := by
  have hreg : regAt 24 = some .attentionPort := by decide
  refine congrArg Host.Outcome.next ?_
  rw [State.busRead, State.hostRead, h, hreg]
  rfl

/-- The bytes of a notice word (R190). -/
theorem notice_bytes (source generation : Nat) {reasons : Word} (h : reasons.toNat < 256) :
    (place 0 8 source ||| (reasons <<< 8) ||| place 16 16 generation).extractLsb' 0 8 = BitVec.ofNat 8 source ∧
    (place 0 8 source ||| (reasons <<< 8) ||| place 16 16 generation).extractLsb' 16 16 = BitVec.ofNat 16 generation ∧
    (place 0 8 source ||| (reasons <<< 8) ||| place 16 16 generation).extractLsb' 8 8 = BitVec.ofNat 8 reasons.toNat := by
  have hlow : (reasons <<< 8).extractLsb' 0 8 = 0 := by
    apply BitVec.eq_of_toNat_eq
    simp [BitVec.extractLsb'_toNat, Nat.shiftLeft_eq]
  have hhigh : (reasons <<< 8).extractLsb' 16 16 = 0 := by
    apply BitVec.eq_of_toNat_eq
    simp [BitVec.extractLsb'_toNat, Nat.shiftLeft_eq, Nat.shiftRight_eq_div_pow]
    omega
  have hmid : (reasons <<< 8).extractLsb' 8 8 = BitVec.ofNat 8 reasons.toNat := by
    apply BitVec.eq_of_toNat_eq
    simp [BitVec.extractLsb'_toNat, Nat.shiftLeft_eq, Nat.shiftRight_eq_div_pow]
    omega
  simp only [BitVec.extractLsb'_or, hlow, hhigh, hmid]
  refine ⟨?_, ?_, ?_⟩
  · rw [extract_place_same (by decide), extract_place_disjoint (by decide)]
    simp
  · rw [extract_place_same (by decide), extract_place_disjoint (by decide)]
    simp
  · rw [extract_place_disjoint (by decide), extract_place_disjoint (by decide)]
    simp

theorem slotReasons_number (i : Slot) (g : BitVec 16) (r : SlotReasons) :
    (reasonByte (some (.slot i g r))).toNat = r.opened.toNat + 2 * r.offered.toNat + 4 * r.inbound.toNat +
      8 * r.drained.toNat + 16 * r.ended.toNat := by
  have hall : ∀ x y z u v : Bool, (placeBit 0 x ||| placeBit 1 y ||| placeBit 2 z ||| placeBit 3 u ||| placeBit 4 v).toNat =
      x.toNat + 2 * y.toNat + 4 * z.toNat + 8 * u.toNat + 16 * v.toNat := by decide
  exact hall _ _ _ _ _

theorem lineReasons_number (l : Line) (r : LineReasons) : (reasonByte (some (.line l r))).toNat =
    r.suspended.toNat + 2 * r.down.toNat + 4 * r.restored.toNat := by
  have hall : ∀ x y z : Bool, (placeBit 0 x ||| placeBit 1 y ||| placeBit 2 z).toNat =
      x.toNat + 2 * y.toNat + 4 * z.toNat := by decide
  exact hall _ _ _

theorem takeNotice_of_empty (h : s.attention.list = []) :
    s.takeNotice = s.setAttention { s.attention with holding := none } := by
  rw [State.takeNotice, h]

theorem takeNotice_of_slot {rest : List Source} (h : s.attention.list = .slot i :: rest) (ha : s.assocAt i = some a) :
    s.takeNotice = { s.setAssoc i { a with reasons := .empty } with
      attention := { s.attention with
        list := rest, holding := some (.slot i (s.generation i) a.reasons),
        holdoffTimer := if rest = [] then .stopped else s.attention.holdoffTimer,
        indicator := s.attention.indicator && decide (rest ≠ []) } } := by
  have hempty : s.emptyReasons (.slot i) = s.setAssoc i { a with reasons := .empty } := by
    rw [State.emptyReasons, ha]
  have hnotice : s.noticeOf (.slot i) = .slot i (s.generation i) a.reasons := by
    rw [State.noticeOf, ha]
    rfl
  rw [State.takeNotice, h]
  dsimp only
  rw [hempty, hnotice, setAssoc_attention, shorten_of_cons h]
  rfl

theorem takeNotice_of_line {l : Line} {rest : List Source} (h : s.attention.list = .line l :: rest) :
    s.takeNotice = { s.setLine l { s.line l with reasons := .empty } with
      attention := { s.attention with
        list := rest, holding := some (.line l (s.line l).reasons),
        holdoffTimer := if rest = [] then .stopped else s.attention.holdoffTimer,
        indicator := s.attention.indicator && decide (rest ≠ []) } } := by
  have hempty : s.emptyReasons (.line l) = s.setLine l { s.line l with reasons := .empty } := rfl
  rw [State.takeNotice, h]
  dsimp only
  rw [hempty, setLine_attention, shorten_of_cons h]
  rfl

/-- With its first byte selected, the word of no notice reads as its source byte alone (R190). -/
theorem noticeWord_none_masked {lanes : BitVec 4} (h : lanes.getLsbD 0 = true) :
    noticeWord none &&& laneMask lanes = 0x000000FF := by
  refine word_ext fun j hj => ?_
  have hnone : noticeWord none = 0x000000FF := by decide
  rw [extract_masked _ lanes hj, hnone]
  have hcases : j = 0 ∨ j = 1 ∨ j = 2 ∨ j = 3 := by omega
  rcases hcases with rfl | rfl | rfl | rfl
  · rw [h]
    rfl
  all_goals exact ite_self _

/-- Settles O58: the list's operations, then a read of the port by what the list holds. -/
theorem attentionUnitListsAndGives : Obligations.AttentionUnitListsAndGives := by
  intro s
  refine ⟨fun i a r ha => raiseSlot_eq ha r, raiseLine_eq s, join_eq s.attention, fun hreset lanes => ?_⟩
  rw [exec_attentionPortRead hreset]
  refine ⟨fun hlane => ?_, fun hlane hlist => ?_, fun i a rest hlane hlist ha => ?_, fun l rest hlane hlist => ?_⟩
  · rw [hlane]
    rfl
  · rw [hlane, if_pos rfl, takeNotice_of_empty hlist, setAttention_attention, noticeWord_none_masked hlane]
    rfl
  · rw [hlane, if_pos rfl, takeNotice_of_slot hlist ha]
    have hnumber := slotReasons_number i (s.generation i) a.reasons
    have hsmall : (reasonByte (some (.slot i (s.generation i) a.reasons))).toNat < 256 := by
      have := Bool.toNat_le a.reasons.opened
      have := Bool.toNat_le a.reasons.offered
      have := Bool.toNat_le a.reasons.inbound
      have := Bool.toNat_le a.reasons.drained
      have := Bool.toNat_le a.reasons.ended
      omega
    obtain ⟨hsource, hgen, hreasons⟩ := notice_bytes i.val (s.generation i).toNat hsmall
    rw [hnumber] at hreasons
    exact ⟨noticeWord (some (.slot i (s.generation i) a.reasons)), hsource, hgen.trans (by simp), hreasons,
      rfl⟩
  · rw [hlane, if_pos rfl, takeNotice_of_line hlist]
    have hnumber := lineReasons_number l (s.line l).reasons
    have hsmall : (reasonByte (some (.line l (s.line l).reasons))).toNat < 256 := by
      have := Bool.toNat_le (s.line l).reasons.suspended
      have := Bool.toNat_le (s.line l).reasons.down
      have := Bool.toNat_le (s.line l).reasons.restored
      omega
    obtain ⟨hsource, hgen, hreasons⟩ := notice_bytes (sourceByte (some (.line l (s.line l).reasons))) 0 hsmall
    rw [hnumber] at hreasons
    refine ⟨noticeWord (some (.line l (s.line l).reasons)), hsource.trans ?_, hgen, hreasons, rfl⟩
    cases l <;> rfl

end Sys2Proof.Machine
end

section
/-! The buffer window (R136, R180). -/

namespace Sys2Proof.Machine

variable {s : State} {word : BitVec 6} {lanes : BitVec 4} {b : BufferNo}

/-- The window's register at a word of the window. -/
theorem regAt_windowWord (h : word.toNat < 60) : regAt (windowWordAddr word) = some (.window ⟨word.toNat, h⟩) := by
  have haddr : (windowWordAddr word).toNat = 64 + word.toNat := by
    have hbase : (64 : BitVec 10).toNat = 64 := by decide
    simp only [windowWordAddr, BitVec.toNat_add, BitVec.toNat_setWidth, hbase]
    omega
  rw [regAt_eq_window (by omega)]
  simp [haddr]

theorem exec_bufferWindowRead (hreset : s.resetAsserted = false) (h : word.toNat < 60) :
    exec (.bufferWindowRead word lanes) s = .next { (s.readWindow ⟨word.toNat, h⟩ lanes).2 with
      dataOut := (s.readWindow ⟨word.toNat, h⟩ lanes).1 &&& laneMask lanes } := by
  refine congrArg Host.Outcome.next ?_
  rw [State.busRead, State.hostRead, hreset, regAt_windowWord h]
  rfl

theorem exec_bufferWindowWrite (hreset : s.resetAsserted = false) (h : word.toNat < 60) (hlanes : lanes ≠ 0) (v : Word) :
    exec (.bufferWindowWrite word lanes v) s = .next (s.writeWindow ⟨word.toNat, h⟩ lanes v) :=
  congrArg Host.Outcome.next (hostWrite_reg hreset (regAt_windowWord h) hlanes v)

theorem windowBuffer_of_host (hb : s.pool.select = some b) (hst : s.bufferStateAt b = .host) : s.windowBuffer = some b := by
  rw [State.windowBuffer, hb]
  exact if_pos hst

theorem windowBuffer_of_not (h : ∀ b, s.pool.select = some b → s.bufferStateAt b ≠ .host) : s.windowBuffer = none := by
  unfold State.windowBuffer
  split
  · rfl
  · rename_i b hb
    exact if_neg (h b hb)

/-- A byte placed in its lane. -/
theorem extract_bytes (x : Nat → Byte) {j : Nat} (hj : j < 4) :
    (place 0 8 (x 0).toNat ||| place 8 8 (x 1).toNat ||| place 16 8 (x 2).toNat ||| place 24 8 (x 3).toNat).extractLsb'
      (8 * j) 8 = x j := by
  have hcases : j = 0 ∨ j = 1 ∨ j = 2 ∨ j = 3 := by omega
  rcases hcases with rfl | rfl | rfl | rfl <;>
    simp [BitVec.extractLsb'_or, extract_place_same, extract_place_disjoint]

theorem read_writeLane {m : List Host.Cell} (hwf : Memory.wf m = true) (b : BufferNo) {k lane : Nat} (hk : 4 * k + lane < 240)
    (lanes : BitVec 4) (v : Word) (x : BufferNo) {n : Nat} (hn : n < 240) :
    Memory.read (writeLane m b k lanes v lane) (Memory.cell x n) =
      if lanes.getLsbD lane = true ∧ x = b ∧ n = 4 * k + lane then wordByte v lane else Memory.read m (Memory.cell x n) := by
  have hcell : Memory.cell x n = Memory.cell b (4 * k + lane) ↔ x = b ∧ n = 4 * k + lane :=
    ⟨fun h => cell_inj hn hk h, fun ⟨hx, hn⟩ => by rw [hx, hn]⟩
  unfold writeLane
  by_cases hl : lanes.getLsbD lane = true
  · rw [if_pos hl, read_write hwf]
    simp only [hcell, hl, true_and]
  · rw [if_neg hl, if_neg fun h => hl h.1]

/-- What a write of a window word leaves in every byte of the buffers. -/
theorem read_writeLanes {m : List Host.Cell} (hwf : Memory.wf m = true) (b : BufferNo) (k : Fin 60) (lanes : BitVec 4)
    (v : Word) (x : BufferNo) {n : Nat} (hn : n < 240) :
    Memory.read (writeLanes m b k.val lanes v) (Memory.cell x n) =
      if x = b ∧ n / 4 = k.val ∧ lanes.getLsbD (n % 4) = true then v.extractLsb' (8 * (n % 4)) 8
      else Memory.read m (Memory.cell x n) := by
  have hk := k.isLt
  have hroom {lane : Nat} (h : lane < 4) : 4 * k.val + lane < 240 := by omega
  have hwf0 := wf_writeLane b (hroom (lane := 0) (by omega)) lanes v hwf
  have hwf1 := wf_writeLane b (hroom (lane := 1) (by omega)) lanes v hwf0
  have hwf2 := wf_writeLane b (hroom (lane := 2) (by omega)) lanes v hwf1
  rw [writeLanes, read_writeLane hwf2 b (hroom (by omega)) lanes v x hn, read_writeLane hwf1 b (hroom (by omega)) lanes v x hn,
    read_writeLane hwf0 b (hroom (by omega)) lanes v x hn, read_writeLane hwf b (hroom (by omega)) lanes v x hn]
  by_cases hx : x = b ∧ n / 4 = k.val
  · obtain ⟨rfl, hq⟩ := hx
    have hlane (lane : Nat) (h : lane < 4) : n = 4 * k.val + lane ↔ n % 4 = lane := by omega
    simp only [hlane 0 (by omega), hlane 1 (by omega), hlane 2 (by omega), hlane 3 (by omega)]
    have hcases : n % 4 = 0 ∨ n % 4 = 1 ∨ n % 4 = 2 ∨ n % 4 = 3 := by omega
    rcases hcases with h | h | h | h <;> simp [h, hq, wordByte]
  · have hno (lane : Nat) (h : lane < 4) : ¬ (lanes.getLsbD lane = true ∧ x = b ∧ n = 4 * k.val + lane) := by
      rintro ⟨-, rfl, rfl⟩
      exact hx ⟨rfl, by omega⟩
    rw [if_neg (hno 3 (by omega)), if_neg (hno 2 (by omega)), if_neg (hno 1 (by omega)), if_neg (hno 0 (by omega)),
      if_neg fun h => hx ⟨h.1, h.2.1⟩]

/-- Settles O60: by whether the selected buffer is the host's. -/
theorem bufferWindowReachesHostBuffersOnly : Obligations.BufferWindowReachesHostBuffersOnly := by
  intro s word lanes v hreset hword hlanes
  rw [exec_bufferWindowRead hreset hword, exec_bufferWindowWrite hreset hword hlanes]
  refine ⟨fun hnot => ?_, fun b hb hst => ?_⟩
  · rw [State.readWindow, State.writeWindow, windowBuffer_of_not hnot]
    dsimp only
    rw [if_neg hlanes]
    refine ⟨?_, rfl⟩
    simp [State.windowFault]
  · rw [State.readWindow, State.writeWindow, windowBuffer_of_host hb hst]
    refine ⟨⟨_, rfl, fun j hj => ?_⟩, fun hwf => ⟨_, rfl, fun x k hk => ?_⟩⟩
    · rw [extract_masked _ lanes hj]
      have hbyte := extract_bytes (fun j => s.bufferByte b (4 * word.toNat + j)) hj
      exact congrArg (if lanes.getLsbD j then · else 0) hbyte
    · exact read_writeLanes hwf b ⟨word.toNat, hword⟩ lanes v x hk

end Sys2Proof.Machine
end

section
/-! Writes of the registers (R187, R188). -/

namespace Sys2Proof.Machine

/-! ### Where the registers are -/

theorem regAt_param (k : Fin 6) : regAt (BitVec.ofNat 10 (12 + k.val)) = some (.param k) := by
  revert k
  decide

theorem regAt_lineGrace (l : Line) : regAt (if l = .a then 130 else 162) = some (.lineGrace l) := by cases l <;> decide

theorem regAt_lineControl (l : Line) : regAt (if l = .a then 128 else 160) = some (.lineControl l) := by cases l <;> decide

theorem regAt_tallyClear (l : Line) : regAt (if l = .a then 137 else 169) = some (.tallyClear l) := by cases l <;> decide

theorem regAt_tallyClearWord (l : Line) : regAt (tallyClearWord l) = some (.tallyClear l) := by cases l <;> decide

/-- Words whose register, if they have one, ignores a write. -/
def IgnoresWrites (o : Option Reg) : Prop := ∀ r, o = some r →
  ∀ (s : State) (lanes : BitVec 4) (v : Word), s.writeReg lanes v r = s

theorem ignoresWrites_none : IgnoresWrites none := fun _ h => absurd h nofun

theorem ignoresWrites_some {r : Reg} (h : ∀ (s : State) (lanes : BitVec 4) (v : Word), s.writeReg lanes v r = s) :
    IgnoresWrites (some r) := fun _ hr => Option.some.inj hr ▸ h

theorem ignoresWrites_ite {c : Prop} [Decidable c] {x y : Option Reg} (hx : c → IgnoresWrites x) (hy : IgnoresWrites y) :
    IgnoresWrites (if c then x else y) := by
  split
  · exact hx ‹_›
  · exact hy

theorem ignoresWrites_lineReg (l : Line) {k : Nat} (h : k ≠ 0 ∧ k ≠ 2 ∧ k ≠ 9) : IgnoresWrites (lineReg l k) := by
  unfold lineReg
  split <;> first | exact ignoresWrites_none | exact ignoresWrites_some fun _ _ _ => rfl | omega

/-- A word whose register takes a write is one of the writable words of R188, or a word of the buffer window. -/
theorem ignoresWrites_regAt {word : BitVec 10}
    (hword : word.toNat ∉ [0, 2, 3, 4, 8, 12, 13, 14, 15, 16, 17, 26, 32, 128, 130, 137, 160, 162, 169])
    (hwindow : ¬ (64 ≤ word.toNat ∧ word.toNat < 124)) : IgnoresWrites (regAt word) := by
  simp only [List.mem_cons, List.not_mem_nil, or_false, not_or] at hword
  have hparam : ¬ (12 ≤ word.toNat ∧ word.toNat < 18) := by omega
  have hresult (h : 20 ≤ word.toNat ∧ word.toNat < 24) : IgnoresWrites (some (.result ⟨word.toNat - 20, by omega⟩)) :=
    ignoresWrites_some fun _ _ _ => rfl
  unfold regAt
  dsimp only
  rw [dif_neg hparam, dif_neg hwindow]
  by_cases hr : 20 ≤ word.toNat ∧ word.toNat < 24
  · rw [dif_pos hr]
    exact hresult hr
  · rw [dif_neg hr]
    refine ignoresWrites_ite (fun _ => ignoresWrites_lineReg _ (by omega)) ?_
    refine ignoresWrites_ite (fun _ => ignoresWrites_lineReg _ (by omega)) ?_
    repeat' refine ignoresWrites_ite (fun _ => ?_) ?_
    all_goals first | omega | exact ignoresWrites_none | exact ignoresWrites_some fun _ _ _ => rfl

/-! ### What a merged word has in its bits and bytes -/

theorem getLsbD_mergeLanes_zero (old v : Word) (lanes : BitVec 4) :
    (mergeLanes old v lanes).getLsbD 0 = if lanes.getLsbD 0 then v.getLsbD 0 else old.getLsbD 0 := by
  have hbit (w : Word) : w.getLsbD 0 = (w.extractLsb' (8 * 0) 8).getLsbD 0 := by simp
  rw [hbit, hbit v, hbit old, merges_mergeLanes old v lanes 0 (by decide)]
  split <;> rfl

/-- A byte is read back where it was placed. -/
theorem extract_place_byte {lo : Nat} (h : lo + 8 ≤ 32) (t : Byte) : (place lo 8 t.toNat).extractLsb' lo 8 = t := by
  rw [extract_place_same h, BitVec.ofNat_toNat, BitVec.setWidth_eq]

/-- The bytes of a merged word depend on the same bytes of what stood before. -/
theorem fieldNat_mergeLanes_congr {old old' : Word} {j : Nat} (hj : j < 4)
    (h : old.extractLsb' (8 * j) 8 = old'.extractLsb' (8 * j) 8) (v : Word) (lanes : BitVec 4) :
    fieldNat (mergeLanes old v lanes) (8 * j) 8 = fieldNat (mergeLanes old' v lanes) (8 * j) 8 := by
  rw [fieldNat, fieldNat, merges_mergeLanes old v lanes j hj, merges_mergeLanes old' v lanes j hj, h]

/-- A write to no byte lane is no write. -/
theorem mergeLanes_none (old v : Word) : mergeLanes old v 0 = old :=
  word_ext fun j hj => (merges_mergeLanes old v 0 j hj).trans (by simp)

theorem hostWrite_none (s : State) (word : BitVec 10) (v : Word) : s.hostWrite word 0 v = s := by
  simp [State.hostWrite]

/-! ### Writes, register by register -/

section Writes

variable {s : State} (hreset : s.resetAsserted = false)

include hreset

/-- A host write of the whole register. -/
theorem hostWrite_whole {word : BitVec 10} {r : Reg} (hreg : regAt word = some r) (v : Word) :
    s.hostWrite word allLanes v = s.writeReg allLanes v r := hostWrite_reg hreset hreg allLanes_ne_zero v

theorem exec_registerWrite {word : BitVec 10} {r : Reg} (hreg : regAt word = some r) {lanes : BitVec 4} (hlanes : lanes ≠ 0)
    (v : Word) : exec (.registerWrite word lanes v) s = .next (s.writeReg lanes v r) :=
  congrArg nextState (hostWrite_reg hreset hreg hlanes v)

theorem exec_faultFlagClear (v : Word) : exec (.faultFlagClear v) s = .next (s.clearFlags v) := by
  refine congrArg nextState ?_
  rw [hostWrite_whole hreset (r := .faultFlags) (by decide), State.writeReg, mergeLanes_all]

theorem exec_tallyClear (l : Line) (v : Word) : exec (.tallyClear l v) s = .next (s.clearTallies l) :=
  congrArg nextState (hostWrite_whole hreset (regAt_tallyClearWord l) v)

theorem exec_tickIntervalWrite (v : Word) : exec (.tickIntervalWrite v) s = .next (s.writeInterval v.toNat) := by
  refine congrArg nextState ?_
  rw [hostWrite_whole hreset (r := .tickInterval) (by decide), State.writeReg, mergeLanes_all]

theorem exec_hostFloorWrite (v : Word) : exec (.hostFloorWrite v) s = .next (s.writeFloor (fieldNat v 0 8)) :=
  congrArg nextState (hostWrite_whole hreset (r := .hostFloor) (by decide) v)

theorem exec_notificationSettingsWrite (v : Word) :
    exec (.notificationSettingsWrite v) s = .next (s.writeNotification v) := by
  refine congrArg nextState ?_
  rw [hostWrite_whole hreset (r := .notification) (by decide), State.writeReg, mergeLanes_all]

theorem exec_start : exec .start s = .next s.startController := by
  refine congrArg nextState ?_
  rw [hostWrite_control hreset]
  rfl

theorem exec_stop : exec .stop s = .next s.stopController := by
  refine congrArg nextState ?_
  rw [hostWrite_control hreset]
  rfl

theorem exec_clear (withStart withStop : Bool) :
    exec (.clear withStart withStop) s = .next (s.requestClear withStart withStop) := by
  refine congrArg nextState ?_
  rw [hostWrite_control hreset]
  cases withStart <;> cases withStop <;> rfl

theorem exec_lineEnable (l : Line) : exec (.lineEnable l) s = .next (s.enableLine l) := by
  refine congrArg nextState ?_
  rw [hostWrite_lineControl l _ hreset]
  rfl

theorem exec_lineDisable (l : Line) : exec (.lineDisable l) s = .next (s.disableLine l) := by
  refine congrArg nextState ?_
  rw [hostWrite_lineControl l _ hreset]
  rfl

theorem exec_registerWrite_control {lanes : BitVec 4} (hlanes : lanes ≠ 0) (v : Word) : exec (.registerWrite 0 lanes v) s =
    .next (s.controlRequest ((mergeLanes 0 v lanes).getLsbD 0) ((mergeLanes 0 v lanes).getLsbD 1)
      ((mergeLanes 0 v lanes).getLsbD 2)) :=
  exec_registerWrite hreset (r := .control) (by decide) hlanes v

theorem exec_registerWrite_command {lanes : BitVec 4} (hlanes : lanes ≠ 0) (v : Word) : exec (.registerWrite 8 lanes v) s =
    .next (s.takeCommand (wordByte (mergeLanes 0 v lanes) 0)) :=
  exec_registerWrite hreset (r := .command) (by decide) hlanes v

theorem exec_registerWrite_select {lanes : BitVec 4} (hlanes : lanes ≠ 0) (v : Word) : exec (.registerWrite 32 lanes v) s =
    .next (s.setPool { s.pool with
      select := bufferOfField (fieldNat (mergeLanes (s.readReg .windowSelect) v lanes) 0 8) }) :=
  exec_registerWrite hreset (r := .windowSelect) (by decide) hlanes v

theorem exec_registerWrite_grace (l : Line) {lanes : BitVec 4} (hlanes : lanes ≠ 0) (v : Word) :
    exec (.registerWrite (if l = .a then 130 else 162) lanes v) s =
      .next (s.writeGrace l (fieldNat (mergeLanes (s.readReg (.lineGrace l)) v lanes) 0 8)) :=
  exec_registerWrite hreset (regAt_lineGrace l) hlanes v

end Writes

/-! ### Writes of the whole register -/

theorem writeGrace_eq (s : State) (l : Line) (t : Byte) : s.writeGrace l t.toNat =
    if t = 0 then s else s.setLine l { s.line l with grace := t.toNat } := by
  have hzero : t.toNat = 0 ↔ t = 0 := by
    rw [← BitVec.toNat_inj]
    rfl
  simp only [State.writeGrace, hzero]

theorem writeFloor_eq (s : State) (n : Nat) :
    s.writeFloor n = (s.setPool { s.pool with hostFloor := if 32 < n then 32 else n }).refreshPass := by
  have hmin : min n Config.hostFloorMax = if 32 < n then 32 else n := by
    simp only [Config.hostFloorMax]
    split <;> omega
  rw [State.writeFloor, hmin]

theorem writeNotification_eq (s : State) (v : Word) : s.writeNotification v = s.setAttention { s.attention with
    enable := v.getLsbD 0,
    threshold := if 1 ≤ (v.extractLsb' 8 8).toNat ∧ (v.extractLsb' 8 8).toNat ≤ 66 then (v.extractLsb' 8 8).toNat
      else s.attention.threshold,
    holdoff := (v.extractLsb' 16 8).toNat } := by
  simp only [State.writeNotification, within_iff]
  rfl

/-- The requests of a control write exclude each other (R169 to R171). -/
theorem controlRequest_eq (s : State) (start stop clear : Bool) : nextState (s.controlRequest start stop clear) =
    if clear then .next (s.requestClear start stop) else if start = stop then .next s
    else if start then .next s.startController else .next s.stopController := by
  cases clear with
  | true => rfl
  | false => cases start <;> cases stop <;> rfl

theorem finishTick_of_interval {s : State} (h : s.timebase.interval = 0) : s.finishTick = s := by
  have : ¬ s.ticks = true := fun ht => ((ticks_iff s).1 ht).2 h
  simp [State.finishTick, this]

/-- A write of the interval while a tick is being taken: the tick is over first (R159). -/
theorem finishTick_of_taken {s : State} (hreset : s.resetAsserted = false) (htaken : s.timebase.taken ≠ none)
    (hinterval : s.timebase.interval ≠ 0) : s.finishTick = s.tickAll := by
  have hsome : s.timebase.taken.isSome = true := Option.isSome_iff_ne_none.2 htaken
  simp [State.finishTick, hsome, (ticks_iff s).2 ⟨hreset, hinterval⟩]

/-! ### Writes of part of a register -/

theorem writeNotification_mergeLanes {s : State} {old : Word} (henable : old.getLsbD 0 = s.attention.enable)
    (hthreshold : (old.extractLsb' 8 8).toNat = s.attention.threshold)
    (hholdoff : (old.extractLsb' 16 8).toNat = s.attention.holdoff) (v : Word) (lanes : BitVec 4) :
    s.writeNotification (mergeLanes (s.readReg .notification) v lanes) = s.writeNotification (mergeLanes old v lanes) := by
  have hbit : (s.readReg .notification).getLsbD 0 = old.getLsbD 0 := by
    rw [State.readReg, BitVec.getLsbD_or, BitVec.getLsbD_or, getLsbD_placeBit (by decide), getLsbD_place, getLsbD_place, henable]
    simp
  have hbyte1 : (s.readReg .notification).extractLsb' (8 * 1) 8 = old.extractLsb' (8 * 1) 8 := by
    rw [State.readReg, ← hthreshold, BitVec.extractLsb'_or, BitVec.extractLsb'_or, placeBit, extract_place_disjoint (by decide),
      extract_place_byte (by decide), extract_place_disjoint (by decide)]
    simp
  have hbyte2 : (s.readReg .notification).extractLsb' (8 * 2) 8 = old.extractLsb' (8 * 2) 8 := by
    rw [State.readReg, ← hholdoff, BitVec.extractLsb'_or, BitVec.extractLsb'_or, placeBit, extract_place_disjoint (by decide),
      extract_place_disjoint (by decide), extract_place_byte (by decide)]
    simp
  have hfield1 : fieldNat _ 8 8 = fieldNat _ 8 8 := fieldNat_mergeLanes_congr (by decide) hbyte1 v lanes
  have hfield2 : fieldNat _ 16 8 = fieldNat _ 16 8 := fieldNat_mergeLanes_congr (by decide) hbyte2 v lanes
  rw [State.writeNotification, State.writeNotification, getLsbD_mergeLanes_zero, getLsbD_mergeLanes_zero, hbit, hfield1,
    hfield2]

theorem readReg_tickInterval {s : State} (h : s.timebase.interval ≤ 4095) :
    s.readReg .tickInterval = BitVec.ofNat 32 s.timebase.interval := place_zero (by omega)

theorem fieldNat_mergeLanes_grace {s : State} {l : Line} {old : Word} (h : (old.extractLsb' 0 8).toNat = (s.line l).grace)
    (v : Word) (lanes : BitVec 4) :
    fieldNat (mergeLanes (s.readReg (.lineGrace l)) v lanes) 0 8 = fieldNat (mergeLanes old v lanes) 0 8 := by
  refine fieldNat_mergeLanes_congr (j := 0) (by decide) ?_ v lanes
  rw [State.readReg, ← h]
  exact extract_place_byte (by decide) _

theorem fieldNat_mergeLanes_select {s : State} {old : Word}
    (h : old.extractLsb' 0 8 = (s.pool.select.elim 255 fun b => BitVec.ofNat 8 b.val)) (v : Word) (lanes : BitVec 4) :
    fieldNat (mergeLanes (s.readReg .windowSelect) v lanes) 0 8 = fieldNat (mergeLanes old v lanes) 0 8 := by
  refine fieldNat_mergeLanes_congr (j := 0) (by decide) ?_ v lanes
  refine ((extract_place_same (by decide) _).trans ?_).trans h.symm
  cases s.pool.select <;> rfl

/-- Settles O57: each register by its own rule. -/
theorem registerWritesTakeEffect : Obligations.RegisterWritesTakeEffect := by
  intro s v hreset
  have hall : (0b1111 : BitVec 4) ≠ 0 := by decide
  have hmerge (old w : Word) : mergeLanes old w 0b1111 = w := mergeLanes_all old w
  refine ⟨fun h => ?_, fun h => ?_, fun k lanes => ?_, fun b hb => ?_, fun hb => ?_, fun l => ?_, exec_faultFlagClear hreset v,
    fun l => exec_tallyClear hreset l v, fun hv h => ?_, fun hv htaken hinterval => ?_, fun hv => ?_, ?_, ?_,
    fun word => congrArg nextState ?_, fun lanes w hlanes hw => ?_, fun lanes w old hlanes hw => ?_, fun lanes => ?_,
    fun _ _ _ => rfl, fun word lanes hword hwindow => congrArg nextState ?_⟩
  · rw [exec_registerWrite_command hreset hall, hmerge, State.takeCommand, if_neg (by simp [State.busy, h])]
    rfl
  · rw [exec_registerWrite_command hreset hall, State.takeCommand, if_pos ((busy_iff s).2 h)]
  · refine ⟨mergeLanes s.mailbox.params[k] v lanes, merges_mergeLanes _ _ _, ?_⟩
    by_cases hlanes : lanes = 0
    · rw [hlanes, mergeLanes_none]
      refine congrArg nextState ?_
      rw [hostWrite_none]
      simp
    · exact exec_registerWrite hreset (regAt_param k) hlanes v
  · rw [exec_registerWrite_select hreset hall, hmerge, bufferOfField_eq_some]
    rw [fieldNat, hb, BitVec.toNat_ofNat]
    exact Nat.mod_eq_of_lt (by omega)
  · rw [exec_registerWrite_select hreset hall, hmerge, bufferOfField_eq_none (show 128 ≤ fieldNat v 0 8 from hb)]
  · rw [exec_registerWrite_grace hreset l hall, hmerge]
    exact congrArg nextState (writeGrace_eq s l _)
  · rw [exec_tickIntervalWrite hreset, State.writeInterval, if_neg (by simp only [Config.intervalMax]; omega)]
    rw [h.elim (finishTick_of_none s) finishTick_of_interval]
  · refine ⟨s.tickAll, ?_, ?_⟩
    · rw [exec_tick_none, if_pos ((ticks_iff s).2 ⟨hreset, hinterval⟩)]
    · rw [exec_tickIntervalWrite hreset, State.writeInterval, if_neg (by simp only [Config.intervalMax]; omega),
        finishTick_of_taken hreset htaken hinterval]
  · rw [exec_tickIntervalWrite hreset, State.writeInterval, if_pos (show Config.intervalMax < v.toNat from hv)]
  · rw [exec_hostFloorWrite hreset, writeFloor_eq]
    rfl
  · rw [exec_notificationSettingsWrite hreset, writeNotification_eq]
  · exact hostWrite_none s word v
  · rw [eq_mergeLanes hw]
    refine ⟨?_, ?_, ?_, ?_, fun l => ?_, fun l => ?_⟩
    · rw [exec_registerWrite_control hreset hlanes, exec_registerWrite_control hreset hall, hmerge]
    · rw [exec_registerWrite_control hreset hlanes, exec_clear hreset, exec_start hreset, exec_stop hreset]
      exact controlRequest_eq s _ _ _
    · rw [exec_faultFlagClear hreset, exec_registerWrite hreset (r := .faultFlags) (by decide) hlanes]
      rfl
    · rw [exec_registerWrite_command hreset hlanes, exec_registerWrite_command hreset hall, hmerge]
    · rw [exec_lineEnable hreset, exec_lineDisable hreset, exec_registerWrite hreset (regAt_lineControl l) hlanes]
      exact apply_ite nextState _ _ _
    · rw [exec_tallyClear hreset, exec_registerWrite hreset (regAt_tallyClear l) hlanes]
      rfl
  · rw [eq_mergeLanes hw]
    refine ⟨fun hold hrange => ?_, fun henable hthreshold hholdoff => ?_, fun l hold => ?_, fun hold => ?_⟩
    · have hword : s.readReg .tickInterval = old := by
        rw [readReg_tickInterval hrange, ← hold, BitVec.ofNat_toNat, BitVec.setWidth_eq]
      rw [exec_tickIntervalWrite hreset, exec_registerWrite hreset (r := .tickInterval) (by decide) hlanes, State.writeReg, hword]
    · rw [exec_notificationSettingsWrite hreset, exec_registerWrite hreset (r := .notification) (by decide) hlanes,
        State.writeReg, writeNotification_mergeLanes henable hthreshold hholdoff]
    · rw [exec_registerWrite_grace hreset l hlanes, exec_registerWrite_grace hreset l hall, hmerge,
        fieldNat_mergeLanes_grace hold]
    · rw [exec_registerWrite_select hreset hlanes, exec_registerWrite_select hreset hall, hmerge,
        fieldNat_mergeLanes_select hold]
  · by_cases hlanes : lanes = 0
    · rw [hlanes]
      exact congrArg nextState (hostWrite_none s 4 v)
    · rw [exec_registerWrite hreset (r := .hostFloor) (by decide) hlanes, exec_hostFloorWrite hreset]
      exact apply_ite nextState _ _ _
  · unfold State.hostWrite
    split
    · rfl
    · split
      · rfl
      · exact ignoresWrites_regAt hword hwindow _ ‹_› s lanes v

end Sys2Proof.Machine
end

section
/-! The receive side of the framer (R26 to R29): what it does with bytes, and with the coded bytes of a frame. -/

namespace Sys2Proof.Machine

/-! ### Bits and bytes -/

theorem getLsbD_shiftIn (v : Byte) (b : Bool) {k : Nat} (hk : k < 8) :
    (shiftIn v b).getLsbD k = if k = 0 then b else v.getLsbD (k - 1) := by
  have hbit : (BitVec.ofNat 8 b.toNat).getLsbD k = (decide (k = 0) && b) := by
    rw [BitVec.getLsbD_ofNat]
    cases b <;> cases k <;> simp [hk, Nat.testBit_succ]
  rw [shiftIn, BitVec.getLsbD_or, BitVec.getLsbD_shiftLeft, hbit]
  by_cases h : k = 0 <;> simp [h, hk]

/-- The eight bits of a byte shifted in are that byte. -/
theorem shiftIn_byteBits (v x : Byte) : (byteBits x).foldl shiftIn v = x := by
  refine BitVec.eq_of_getLsbD_eq fun k hk => ?_
  simp only [byteBits, List.foldl]
  have hcases : k = 0 ∨ k = 1 ∨ k = 2 ∨ k = 3 ∨ k = 4 ∨ k = 5 ∨ k = 6 ∨ k = 7 := by omega
  rcases hcases with rfl | rfl | rfl | rfl | rfl | rfl | rfl | rfl <;>
    simp [getLsbD_shiftIn, -BitVec.getLsbD_eq_getElem]

theorem bitsOf_append (xs ys : List Byte) : bitsOf (xs ++ ys) = bitsOf xs ++ bitsOf ys := List.flatMap_append

theorem bitsOf_cons (x : Byte) (xs : List Byte) : bitsOf (x :: xs) = byteBits x ++ bitsOf xs := rfl

theorem escape_cons (x : Byte) (xs : List Byte) :
    escape (x :: xs) = (if x = Config.mark then [Config.mark, Config.mark] else [x]) ++ escape xs := by
  rw [escape]
  split <;> rfl

theorem escape_append (xs ys : List Byte) : escape (xs ++ ys) = escape xs ++ escape ys := by
  induction xs with
  | nil => rfl
  | cons x xs ih => rw [List.cons_append, escape_cons, escape_cons, ih, List.append_assoc]

/-! ### Feeding the framer -/

namespace RxFramer

theorem feed_cons {f g : RxFramer} {b : Bool} {e : List RxEvent} (h : f.takeBit b = (g, e)) (rest : List Bool) :
    f.feed (b :: rest) = ((g.feed rest).1, e ++ (g.feed rest).2) := by
  rw [feed, h]

theorem feed_append {f g : RxFramer} {xs : List Bool} {e : List RxEvent} (h : f.feed xs = (g, e)) (ys : List Bool) :
    f.feed (xs ++ ys) = ((g.feed ys).1, e ++ (g.feed ys).2) := by
  induction xs generalizing f e with
  | nil =>
    cases h
    rfl
  | cons b xs ih =>
    cases hb : f.takeBit b with
    | mk f1 e1 =>
      rw [feed_cons hb] at h
      cases h
      rw [List.cons_append, feed_cons hb, ih rfl, List.append_assoc]

/-- A whole byte inside a frame (R26). -/
theorem feed_byte (bytes : List Byte) (check : BitVec 16) (length : Nat) (marked : Bool) (v x : Byte) :
    feed (.collecting bytes check length marked 0 v) (byteBits x) = takeByte bytes check length marked x := by
  have hx := shiftIn_byteBits v x
  simp only [byteBits, List.foldl] at hx
  simp [feed, byteBits, takeBit, hx, -BitVec.getLsbD_eq_getElem]

/-- Two whole bytes: a held mark byte and the byte after it (R26). -/
theorem feed_pattern (bytes : List Byte) (check : BitVec 16) (length : Nat) (v x : Byte) :
    feed (.collecting bytes check length false 0 v) (bitsOf [Config.mark, x]) = takeByte bytes check length true x := by
  have hmark : feed (.collecting bytes check length false 0 v) (byteBits Config.mark) =
      (.collecting bytes check length true 0 0, []) := feed_byte _ _ _ _ _ _
  rw [bitsOf_cons, feed_append hmark, bitsOf_cons, show bitsOf [] = [] from rfl, List.append_nil, feed_byte]
  rfl

/-- A byte of the frame as it is coded (R26): a byte is collected, whether or not it is the mark byte. -/
theorem feed_escape_byte (bytes : List Byte) (check : BitVec 16) (length : Nat) (v x : Byte) :
    feed (.collecting bytes check length false 0 v) (bitsOf (escape [x])) = collect bytes check length x := by
  rw [escape_cons]
  by_cases hx : x = Config.mark
  · subst hx
    exact (feed_pattern bytes check length v Config.mark).trans rfl
  · rw [if_neg hx]
    refine (feed_byte bytes check length false v x).trans ?_
    rw [takeByte, if_neg Bool.false_ne_true, if_neg hx]

/-- The coded bytes of a frame are collected, coding removed, while the frame is not over-long. -/
theorem feed_escape {ys : List Byte} {bytes : List Byte} {check : BitVec 16} {length : Nat}
    (h : length + ys.length < Config.frameOver) :
    feed (.collecting bytes check length false 0 0) (bitsOf (escape ys)) =
      (.collecting (bytes ++ ys) (crcBytes check ys) (length + ys.length) false 0 0, []) := by
  induction ys generalizing bytes check length with
  | nil => simp [escape, bitsOf, feed, crcBytes]
  | cons y ys ih =>
    rw [List.length_cons] at h
    have hone : feed (.collecting bytes check length false 0 0) (bitsOf (escape [y])) =
        (.collecting (bytes ++ [y]) (crcByte check y) (length + 1) false 0 0, []) := by
      rw [feed_escape_byte, collect, if_neg (by omega)]
    rw [← List.singleton_append, escape_append, bitsOf_append, feed_append hone, ih (by omega)]
    simp only [List.append_assoc, List.nil_append, List.length_append, List.length_singleton, Nat.add_assoc]
    rfl

/-- The coded bytes of a fresh frame. -/
theorem feed_opened {ys : List Byte} (h : ys.length < Config.frameOver) : feed opened (bitsOf (escape ys)) =
    (.collecting ys (crcBytes Config.crcPreset ys) ys.length false 0 0, []) := by
  have hbody := feed_escape (bytes := []) (check := Config.crcPreset) (length := 0) (ys := ys) (by omega)
  rwa [List.nil_append, Nat.zero_add] at hbody

/-- The coded bytes of a fresh frame and a pattern after them. -/
theorem feed_opened_pattern {ys : List Byte} (h : ys.length < Config.frameOver) (x : Byte) :
    feed opened (bitsOf (escape ys ++ [Config.mark, x])) =
      takeByte ys (crcBytes Config.crcPreset ys) ys.length true x := by
  rw [bitsOf_append, feed_append (feed_opened h), feed_pattern]
  rfl

/-- The 249th byte gives the frame up (R29). -/
theorem feed_opened_over {ys : List Byte} (h : ys.length = Config.frameOver) :
    feed opened (bitsOf (escape ys)) = (.idle, [.discarded]) := by
  have hne : ys ≠ [] := List.ne_nil_of_length_eq_add_one (n := 248) h
  have hlen : ys.dropLast.length + 1 = Config.frameOver := by
    rw [List.length_dropLast, h]
    rfl
  rw [← List.dropLast_append_getLast hne, escape_append, bitsOf_append, feed_append (feed_opened (by omega)), feed_escape_byte,
    collect, if_pos hlen]
  rfl

/-! ### Idle fill and the start pattern -/

/-- What the search holds while it meets ones only. -/
def onesWindows : List Byte := [0, 1, 3, 7, 15, 31, 63, 127, 255]

/-- Idle fill finds no mark byte (R26, R30). -/
theorem feed_fill {w : Byte} (h : w ∈ onesWindows) (n : Nat) :
    ∃ v ∈ onesWindows, feed (.hunting w) (List.replicate n true) = (.hunting v, []) := by
  induction n generalizing w with
  | zero => exact ⟨w, h, rfl⟩
  | succ n ih =>
    have hclosed : ∀ w ∈ onesWindows, shiftIn w true ∈ onesWindows ∧ shiftIn w true ≠ Config.mark := by decide
    obtain ⟨hnext, hmark⟩ := hclosed w h
    obtain ⟨v, hv, hfeed⟩ := ih hnext
    refine ⟨v, hv, ?_⟩
    rw [List.replicate_succ, feed_cons (by rw [takeBit, if_neg hmark]), hfeed]
    rfl

/-- The start pattern is found at its own place after any idle fill. -/
theorem feed_start {w : Byte} (h : w ∈ onesWindows) :
    feed (.hunting w) (bitsOf [Config.mark, Config.startCode]) = (opened, []) := by
  revert w
  decide

end RxFramer

/-! ### The check bytes (R27) -/

/-- A bit that equals the register's top bit shifts the register. -/
theorem crcBit_top {reg : BitVec 16} {b : Bool} (h : b = reg.getLsbD 15) : crcBit reg b = reg <<< 1 := by
  rw [crcBit, h, Bool.xor_self, if_neg Bool.false_ne_true]

/-- The register's own top byte shifts the register by a byte. -/
theorem crcByte_top (reg : BitVec 16) : crcByte reg (reg.extractLsb' 8 8) = reg <<< 8 := by
  have hstep {k : Nat} (hk : k < 8) : crcBit (reg <<< k) ((reg.extractLsb' 8 8).getLsbD (7 - k)) = reg <<< (k + 1) := by
    rw [crcBit_top, BitVec.shiftLeft_add]
    rw [BitVec.getLsbD_extractLsb', BitVec.getLsbD_shiftLeft]
    have hbit : 8 + (7 - k) = 15 - k := by omega
    have hlow : ¬ 15 < k := by omega
    have hsmall : 7 - k < 8 := by omega
    simp [hbit, hlow, hsmall]
  have hfirst : crcBit reg ((reg.extractLsb' 8 8).getLsbD 7) = reg <<< 1 := by
    have := hstep (k := 0) (by decide)
    rwa [BitVec.shiftLeft_zero] at this
  simp only [crcByte, byteBits, List.foldl_cons, List.foldl_nil]
  rw [hfirst, hstep (k := 1) (by decide), hstep (k := 2) (by decide), hstep (k := 3) (by decide), hstep (k := 4) (by decide),
    hstep (k := 5) (by decide), hstep (k := 6) (by decide), hstep (k := 7) (by decide)]

/-- A frame with its check bytes leaves the register 0. -/
theorem crcBytes_checkBytes (xs : List Byte) : crcBytes Config.crcPreset (xs ++ checkBytes xs) = 0 := by
  rw [crcBytes, List.foldl_append]
  change [_, _].foldl crcByte (crcBytes Config.crcPreset xs) = 0
  generalize crcBytes Config.crcPreset xs = c
  have hlow : c.extractLsb' 0 8 = (c <<< 8).extractLsb' 8 8 := by
    refine BitVec.eq_of_getLsbD_eq fun k hk => ?_
    have hbit : 8 + k < 16 := by omega
    simp [hk, hbit, -BitVec.getLsbD_eq_getElem]
  rw [List.foldl_cons, crcByte_top, List.foldl_cons, hlow, crcByte_top, ← BitVec.shiftLeft_add]
  exact BitVec.shiftLeft_eq_zero (by decide)

/-! ### The commands -/

section Commands

variable {s : State} {l : Line}

/-- Bits received on an ACTIVE line, by what the framer makes of them (R28). -/
theorem receive_of_feed (hreset : s.resetAsserted = false) (hactive : (s.line l).state = .active) {bits : List Bool}
    {f : RxFramer} {events : List RxEvent} (h : (s.line l).rx.feed bits = (f, events)) : s.receive l bits =
      s.setLine l (events.foldl LineRecord.takeEvent { s.line l with rx := f }) := by
  rw [State.receive, if_neg (by simp [hreset]), LineRecord.receive, if_pos hactive, h]

/-- The framer inside a fresh frame on an ACTIVE line. -/
structure Fresh (s : State) (l : Line) : Prop where
  reset : s.resetAsserted = false
  active : (s.line l).state = .active
  rx : (s.line l).rx = .opened

/-- The line after an event that ends a frame. -/
def LineRecord.discarded (r : LineRecord) (f : RxFramer) : LineRecord := { r with rx := f, tallies := r.tallies.bump .check }

theorem receive_of_discarded (h : Fresh s l) {coded : List Byte} {f : RxFramer}
    (hfeed : RxFramer.opened.feed (bitsOf coded) = (f, [.discarded])) :
    s.receive l (bitsOf coded) = s.setLine l ((s.line l).discarded f) :=
  receive_of_feed h.reset h.active (by rw [h.rx, hfeed])

theorem exec_frameArrival_delivered (h : Fresh s l) {ys : List Byte} (hlen : ys.length < 249)
    (hgood : crcBytes 0xFFFF ys = 0 ∧ 7 ≤ ys.length) :
    exec (.frameArrival l (escape ys)) s = .next (s.setLine l { s.line l with
      rx := .hunting 0, arrived := (s.line l).arrived ++ [{ bytes := ys.take (ys.length - 2) }] }) := by
  have hend : RxFramer.atEnd ys (crcBytes Config.crcPreset ys) ys.length =
      .delivered { bytes := ys.take (ys.length - 2) } := if_pos ⟨hgood.1, hgood.2, hlen⟩
  have hfeed := (RxFramer.feed_opened_pattern hlen Config.endCode).trans
    (congrArg (fun e => (RxFramer.idle, [e])) hend)
  exact congrArg nextState (receive_of_feed h.reset h.active (by rw [h.rx, hfeed]))

theorem exec_frameArrival_discarded (h : Fresh s l) {ys : List Byte} (hlen : ys.length < 249)
    (hbad : ¬ (crcBytes 0xFFFF ys = 0 ∧ 7 ≤ ys.length)) : exec (.frameArrival l (escape ys)) s =
      .next (s.setLine l ((s.line l).discarded (.hunting 0))) := by
  have hend : RxFramer.atEnd ys (crcBytes Config.crcPreset ys) ys.length = .discarded :=
    if_neg fun hgood => hbad ⟨hgood.1, hgood.2.1⟩
  exact congrArg nextState (receive_of_discarded h ((RxFramer.feed_opened_pattern hlen Config.endCode).trans
    (congrArg (fun e => (RxFramer.idle, [e])) hend)))

end Commands

/-- Settles O17: by what the end pattern finds. -/
theorem frameArrivalDeliversOrCounts : Obligations.FrameArrivalDeliversOrCounts :=
  fun _ _ _ hreset hactive hrx hlen => ⟨exec_frameArrival_delivered ⟨hreset, hactive, hrx⟩ hlen,
    exec_frameArrival_discarded ⟨hreset, hactive, hrx⟩ hlen⟩

/-- Settles O18: the check bytes leave the register 0, so the frame is delivered. -/
theorem sentFrameIsReceivedIntact : Obligations.SentFrameIsReceivedIntact := by
  intro s l fill xs hreset hactive hrx hmin hmax
  have hlen : (xs ++ checkBytes xs).length = xs.length + 2 := List.length_append
  have hstart : (s.line l).rx.feed (List.replicate fill true ++ bitsOf [Config.mark, Config.startCode]) = (.opened, []) := by
    obtain ⟨v, hv, hfill⟩ := RxFramer.feed_fill (w := 0) (by decide) fill
    rw [hrx, RxFramer.feed_append hfill, RxFramer.feed_start hv]
    rfl
  have hbegin : s.receive l (List.replicate fill true ++ bitsOf [Config.mark, Config.startCode]) =
      s.setLine l { s.line l with rx := .collecting [] 0xFFFF 0 false 0 0 } := receive_of_feed hreset hactive hstart
  refine ⟨rfl, _, rfl, hbegin, ?_⟩
  have hfresh : Fresh (s.setLine l { s.line l with rx := .opened }) l :=
    ⟨by simp [hreset], by simp [hactive], by simp⟩
  have harrival := exec_frameArrival_delivered hfresh (ys := xs ++ checkBytes xs) (by omega)
    ⟨crcBytes_checkBytes xs, by omega⟩
  have htake : (xs ++ checkBytes xs).take ((xs ++ checkBytes xs).length - 2) = xs := by
    rw [hlen]
    exact List.take_left
  rw [hbegin]
  refine harrival.trans ?_
  rw [htake, setLine_setLine, line_setLine_self, ← hrx]

/-- Settles O19: each cause by the pattern that follows the coded bytes. -/
theorem abortedFrameIsCounted : Obligations.AbortedFrameIsCounted := by
  intro s l ys hreset hactive hrx
  have hfresh : Fresh s l := ⟨hreset, hactive, hrx⟩
  refine ⟨fun hlen y hy => ⟨?_, ?_, ?_⟩, fun hlen => ?_⟩
  · exact congrArg nextState (receive_of_discarded hfresh (RxFramer.feed_opened_pattern hlen Config.abortCode))
  · have hviolation : RxFramer.takeByte ys (crcBytes Config.crcPreset ys) ys.length true y = (.idle, [.discarded]) := by
      simp only [violates, Bool.and_eq_true, decide_eq_true_eq] at hy
      obtain ⟨⟨⟨hstart, hend⟩, -⟩, hmark⟩ := hy
      rw [RxFramer.takeByte, if_pos rfl, if_neg hmark, if_neg hend, if_neg hstart]
    exact congrArg nextState (receive_of_discarded hfresh ((RxFramer.feed_opened_pattern hlen y).trans hviolation))
  · refine congrArg nextState ((receive_of_discarded hfresh
      (RxFramer.feed_opened_pattern hlen Config.startCode)).trans ?_)
    exact congrArg (fun f => s.setLine l ((s.line l).discarded f)) hrx.symm
  · refine congrArg nextState (receive_of_discarded hfresh ?_)
    rw [abortBytes, List.append_nil, RxFramer.feed_opened_over hlen]
    rfl

end Sys2Proof.Machine
end
